-- ==== Sys2Proof/Word.lean ====
section
/-! DEFINITION. The word types of the engine (00_scope R12, R13) and the record of four words
that the Digest State, the working registers and the result of the transform are. Operators
on words are in `Sys2Proof/Machine/Operands.lean`. -/

namespace Sys2Proof

/-- A byte: 8 bits (R12). -/
abbrev Byte := BitVec 8

/-- A word: an unsigned integer below 2^32 (R13). -/
abbrev Word := BitVec 32

/-- A doubleword: an unsigned integer below 2^64 (R13). -/
abbrev DWord := BitVec 64

/-- Four words: A, B, C, D of the Digest State, `H[0]` = `a` .. `H[3]` = `d` (R22), and in the
same shape the four working registers of the transform (R23, R122). -/
structure Words4 where
  a : Word
  b : Word
  c : Word
  d : Word
deriving DecidableEq, Repr

end Sys2Proof
end

