-- ==== Sys2Proof/Config.lean ====
section
/-! DEFINITION. The constants of the engine (R8, R9), which no command changes (R25, R31), and
the free values: constants with no body, of which nothing can be proved, for the registers that
"hold no value" once an invocation or a SUM is over (R23, R24, R26, R34; log 5). -/

namespace Sys2Proof.Config

/-- `BLOCK_SIZE`, bytes of one block (R8). -/
def blockSize : Nat := 64

/-- `DIGEST_SIZE`, bytes of the digest (R8). -/
def digestSize : Nat := 16

/-- `PAD_RESIDUE`: the length field starts at this offset of the last block (R8, R171). -/
def padResidue : Nat := 56

/-- `PAD_FIRST` (R8, R171). -/
def padFirst : Byte := 0x80

/-- `PAD_FILL` (R8, R171). -/
def padFill : Byte := 0x00

/-- `INIT[0..3]`, the initial state words (R9, R38; decision D3 of the spec, log 10). -/
def init : Words4 := ⟨0x67452301, 0xefcdab89, 0x98badcfe, 0x10325476⟩

/-- `CKPT_TAG`, the ASCII bytes of "md5" (R191, decision D5). -/
def ckptTag : List Byte := [0x6d, 0x64, 0x35]

/-- `CKPT_VERSION` (R192, decision D5). -/
def ckptVersion : Byte := 0x01

/-- `CKPT_SIZE`, bytes of a version 1 checkpoint (R193, decision D5). -/
def ckptSize : Nat := 92

/-- `CKPT_PAD`, written after the pending bytes of the buffer field (R194, decision D6). -/
def ckptPad : Byte := 0x00

/-- Operands are shorter than this (R51, R83, decision D12). -/
def operandBound : Nat := 2 ^ 64

/-- FREE VALUE (log 5): the word a 32-bit register holds after a use of it that leaves it
"no value"; `draw` numbers the occasions, `slot` the registers. -/
opaque freeWord (draw slot : Nat) : Word

/-- FREE VALUE (log 5): the step index after an invocation (R26). -/
opaque freeIndex (draw : Nat) : BitVec 6

/-- FREE VALUE (log 5): the duplicate's buffer after a SUM (R34). -/
opaque freeBytes (draw : Nat) : List Byte

/-- FREE VALUE (log 5): the duplicate's counter after a SUM (R34). -/
opaque freeDWord (draw : Nat) : DWord

end Sys2Proof.Config
end

