-- ==== Sys2Proof/Syntax.lean ====
section
/-! DEFINITION. The instructions of the engine: the nine commands (R80, R82) and the 64 step
micro-operations of the Compression Transform (R85, R300 to R363), one constructor per row of
the opcode table; and the two encodings they come in. -/

namespace Sys2Proof

/-- One instruction. A command carries its operand, a byte sequence (R83); a step has none. -/
inductive Instr where
  /-- NEW (R150). -/
  | new
  /-- WRITE p (R152). -/
  | write (p : List Byte)
  /-- SUM prefix; an absent prefix is the empty sequence (R83, R153). -/
  | sum (pre : List Byte)
  /-- RESET (R151). -/
  | reset
  /-- BLOCKSIZE (R154). -/
  | blockSize
  /-- DIGESTSIZE (R155). -/
  | digestSize
  /-- SERIALIZE (R194). -/
  | serialize
  /-- RESTORE s (R196). -/
  | restore (ck : List Byte)
  /-- APPENDSERIALIZE buffer (R195). -/
  | appendSerialize (buffer : List Byte)
  /- STEP 0 to STEP 15: round 0 (R300 to R315). -/
  | step0 | step1 | step2 | step3
  | step4 | step5 | step6 | step7
  | step8 | step9 | step10 | step11
  | step12 | step13 | step14 | step15
  /- STEP 16 to STEP 31: round 1 (R316 to R331). -/
  | step16 | step17 | step18 | step19
  | step20 | step21 | step22 | step23
  | step24 | step25 | step26 | step27
  | step28 | step29 | step30 | step31
  /- STEP 32 to STEP 47: round 2 (R332 to R347). -/
  | step32 | step33 | step34 | step35
  | step36 | step37 | step38 | step39
  | step40 | step41 | step42 | step43
  | step44 | step45 | step46 | step47
  /- STEP 48 to STEP 63: round 3 (R348 to R363). -/
  | step48 | step49 | step50 | step51
  | step52 | step53 | step54 | step55
  | step56 | step57 | step58 | step59
  | step60 | step61 | step62 | step63
deriving DecidableEq, Repr

/-- What the host hands over for one command: the 8-bit command word (R81) and the operand's
bytes, whose number the host gives outside the block (R83). -/
structure Submission where
  word : Byte
  operand : List Byte
deriving DecidableEq, Repr

/-- The two formats an instruction is encoded in: CMD, a submission (R81), and STEP, a 6-bit
step index (R85). -/
inductive Encoding where
  | cmd (c : Submission)
  | step (i : BitVec 6)
deriving DecidableEq, Repr

end Sys2Proof
end

