-- ==== Sys2Proof/WellFormed.lean ====
section
/-! DEFINITION. Which instructions are well formed: an operand is shorter than 2^64 bytes
(R51, R83, decision D12). A step has no operand, and every one is well formed (R93). -/

namespace Sys2Proof

/-- The length bound of an operand (R51). -/
def operandFits (p : List Byte) : Bool := decide (p.length < Config.operandBound)

/-- The check, one line per constructor. -/
def Instr.wellFormed : Instr → Bool
  | .new => true
  | .write p => operandFits p
  | .sum pre => operandFits pre
  | .reset => true
  | .blockSize => true
  | .digestSize => true
  | .serialize => true
  | .restore ck => operandFits ck
  | .appendSerialize buffer => operandFits buffer
  | .step0 | .step1 | .step2 | .step3 | .step4 | .step5 | .step6 | .step7 => true
  | .step8 | .step9 | .step10 | .step11 | .step12 | .step13 | .step14 | .step15 => true
  | .step16 | .step17 | .step18 | .step19 | .step20 | .step21 | .step22 | .step23 => true
  | .step24 | .step25 | .step26 | .step27 | .step28 | .step29 | .step30 | .step31 => true
  | .step32 | .step33 | .step34 | .step35 | .step36 | .step37 | .step38 | .step39 => true
  | .step40 | .step41 | .step42 | .step43 | .step44 | .step45 | .step46 | .step47 => true
  | .step48 | .step49 | .step50 | .step51 | .step52 | .step53 | .step54 | .step55 => true
  | .step56 | .step57 | .step58 | .step59 | .step60 | .step61 | .step62 | .step63 => true

/-- The check as a proposition. -/
abbrev WellFormed (i : Instr) : Prop := i.wellFormed = true

end Sys2Proof
end

