-- ==== Sys2Proof/Decode.lean ====
section
/-! DEFINITION. The decoder and the encoder. `decode` is total on every encoding and rejects by
name; `encode` is written from the same tables (R82, R85). `decodeTableWord` reads the words
as the opcode table numbers them. -/

namespace Sys2Proof

/-- Why an encoding is no instruction. -/
inductive DecodeError where
  /-- The word names no command: `zero` is not 0000 or `op` is in 0x9 .. 0xF (R91). -/
  | reservedWord
  /-- An operand came with one of the five commands that take none (R81, R82; log 7). -/
  | strayOperand
  /-- An operand of 2^64 bytes or more (R51, R83; log 7). -/
  | operandTooLong
deriving DecidableEq, Repr

/-- The field `zero` of a command word, bits 7:4 (R81). -/
def fieldZero (w : Byte) : Nat := w.toNat / 16

/-- The field `op` of a command word, bits 3:0 (R81). -/
def fieldOp (w : Byte) : Nat := w.toNat % 16

/-- A command that takes no operand (R82). -/
def plainCommand (i : Instr) (operand : List Byte) : Except DecodeError Instr :=
  if operand = [] then .ok i else .error .strayOperand

/-- A command that takes one (R82, R83). -/
def operandCommand (mk : List Byte → Instr) (operand : List Byte) : Except DecodeError Instr :=
  if operandFits operand then .ok (mk operand) else .error .operandTooLong

/-- The format CMD (R81, R82, R91). -/
def decodeCmd (c : Submission) : Except DecodeError Instr :=
  if fieldZero c.word ≠ 0 then .error .reservedWord
  else
    match fieldOp c.word with
    | 0x0 => plainCommand .new c.operand
    | 0x1 => operandCommand .write c.operand
    | 0x2 => operandCommand .sum c.operand
    | 0x3 => plainCommand .reset c.operand
    | 0x4 => plainCommand .blockSize c.operand
    | 0x5 => plainCommand .digestSize c.operand
    | 0x6 => plainCommand .serialize c.operand
    | 0x7 => operandCommand .restore c.operand
    | 0x8 => operandCommand .appendSerialize c.operand
    | _ => .error .reservedWord

/-- The steps of round 0, in the order of the position p = 0 .. 15 (R85). -/
def stepsRound0 : List Instr :=
  [.step0, .step1, .step2, .step3, .step4, .step5, .step6, .step7,
   .step8, .step9, .step10, .step11, .step12, .step13, .step14, .step15]

/-- The steps of round 1, in the order of the position p = 0 .. 15 (R85). -/
def stepsRound1 : List Instr :=
  [.step16, .step17, .step18, .step19, .step20, .step21, .step22, .step23,
   .step24, .step25, .step26, .step27, .step28, .step29, .step30, .step31]

/-- The steps of round 2, in the order of the position p = 0 .. 15 (R85). -/
def stepsRound2 : List Instr :=
  [.step32, .step33, .step34, .step35, .step36, .step37, .step38, .step39,
   .step40, .step41, .step42, .step43, .step44, .step45, .step46, .step47]

/-- The steps of round 3, in the order of the position p = 0 .. 15 (R85). -/
def stepsRound3 : List Instr :=
  [.step48, .step49, .step50, .step51, .step52, .step53, .step54, .step55,
   .step56, .step57, .step58, .step59, .step60, .step61, .step62, .step63]

/-- The field `r` of a step index, bits 5:4, the round: r = i >> 4 (R85, R86). -/
def fieldRound (i : BitVec 6) : Nat := i.toNat / 16

/-- The field `p` of a step index, bits 3:0, the position within the round:
p = i & 15 (R85, R86). -/
def fieldPos (i : BitVec 6) : Nat := i.toNat % 16

/-- The format STEP: every 6-bit index names a step (R85, R93). The default of `getD` is never
reached: each list has sixteen entries. -/
def decodeStep (i : BitVec 6) : Instr :=
  match fieldRound i with
  | 0 => stepsRound0.getD (fieldPos i) .step0
  | 1 => stepsRound1.getD (fieldPos i) .step16
  | 2 => stepsRound2.getD (fieldPos i) .step32
  | _ => stepsRound3.getD (fieldPos i) .step48

/-- The decoder, total on both formats. -/
def decode : Encoding → Except DecodeError Instr
  | .cmd c => decodeCmd c
  | .step i => .ok (decodeStep i)

/-- The encoder: command words of R82, step indices of R85. -/
def encode : Instr → Encoding
  | .new => .cmd ⟨0x00, []⟩
  | .write p => .cmd ⟨0x01, p⟩
  | .sum pre => .cmd ⟨0x02, pre⟩
  | .reset => .cmd ⟨0x03, []⟩
  | .blockSize => .cmd ⟨0x04, []⟩
  | .digestSize => .cmd ⟨0x05, []⟩
  | .serialize => .cmd ⟨0x06, []⟩
  | .restore ck => .cmd ⟨0x07, ck⟩
  | .appendSerialize buffer => .cmd ⟨0x08, buffer⟩
  | .step0 => .step 0
  | .step1 => .step 1
  | .step2 => .step 2
  | .step3 => .step 3
  | .step4 => .step 4
  | .step5 => .step 5
  | .step6 => .step 6
  | .step7 => .step 7
  | .step8 => .step 8
  | .step9 => .step 9
  | .step10 => .step 10
  | .step11 => .step 11
  | .step12 => .step 12
  | .step13 => .step 13
  | .step14 => .step 14
  | .step15 => .step 15
  | .step16 => .step 16
  | .step17 => .step 17
  | .step18 => .step 18
  | .step19 => .step 19
  | .step20 => .step 20
  | .step21 => .step 21
  | .step22 => .step 22
  | .step23 => .step 23
  | .step24 => .step 24
  | .step25 => .step 25
  | .step26 => .step 26
  | .step27 => .step 27
  | .step28 => .step 28
  | .step29 => .step 29
  | .step30 => .step 30
  | .step31 => .step 31
  | .step32 => .step 32
  | .step33 => .step 33
  | .step34 => .step 34
  | .step35 => .step 35
  | .step36 => .step 36
  | .step37 => .step 37
  | .step38 => .step 38
  | .step39 => .step 39
  | .step40 => .step 40
  | .step41 => .step 41
  | .step42 => .step 42
  | .step43 => .step 43
  | .step44 => .step 44
  | .step45 => .step 45
  | .step46 => .step 46
  | .step47 => .step 47
  | .step48 => .step 48
  | .step49 => .step 49
  | .step50 => .step 50
  | .step51 => .step 51
  | .step52 => .step 52
  | .step53 => .step 53
  | .step54 => .step 54
  | .step55 => .step 55
  | .step56 => .step 56
  | .step57 => .step 57
  | .step58 => .step 58
  | .step59 => .step 59
  | .step60 => .step 60
  | .step61 => .step 61
  | .step62 => .step 62
  | .step63 => .step 63

/-- The encoding that a number of the opcode table stands for (log 1). The table's two formats
share the numbers 0 to 8: a number of 8 bits that is one of the nine command words is that
command word, and every other number is a step index in its low six bits (mask 0x3f), as is
every number the table gives fewer than 7 or more than 8 bits, which only its STEP rows have.
A number of 8 bits from 0x40 up is a command word, a reserved one. -/
def tableEncoding (nbits w : Nat) : Encoding :=
  if nbits = 7 ∨ nbits = 8 then
    if w < 9 ∨ 64 ≤ w then .cmd ⟨BitVec.ofNat 8 w, []⟩ else .step (BitVec.ofNat 6 w)
  else .step (BitVec.ofNat 6 w)

/-- The instruction the decoder reads from a word of the opcode table; an operand, which the
table gives no bits, is the empty one. -/
def decodeTableWord (nbits w : Nat) : Option Instr :=
  match decode (tableEncoding nbits w) with
  | .ok i => some i
  | .error _ => none

end Sys2Proof
end

