-- ==== Sys2Proof/Machine/State.lean ====
section
/-! DEFINITION. The state of the engine as plain data, the three kinds of answer to a command,
and the state after reset. -/

namespace Sys2Proof.Machine

/-- The status of a response (R84, R221). -/
inductive Status where
  | ok
  | invalidState
  | badCommand
deriving DecidableEq, Repr

/-- The informational cause of `InvalidState` (R221): no claim about the engine rests on it. -/
inductive Cause where
  | badTag
  | badVersion
  | badLength
deriving DecidableEq, Repr

/-- The payload of a response (R82, R84): nothing, a byte sequence, or, for BLOCKSIZE and
DIGESTSIZE, a natural number of no stated width (decision D17). -/
inductive Payload where
  | none
  | bytes (p : List Byte)
  | number (n : Nat)
deriving DecidableEq, Repr

/-- The one response that ends a command (R84). -/
structure Response where
  status : Status
  cause : Option Cause
  payload : Payload
deriving DecidableEq, Repr

/-- The three pieces of state of an instance (R20): the Digest State `H[0..3]` (R22), the
Pending Buffer `BUF` (R33) and the Total Length Counter `LEN` (R29). -/
structure Instance where
  h : Words4
  buf : List Byte
  len : DWord
deriving DecidableEq, Repr

/-- The registers of one transform invocation: the working registers A, B, C, D (R23, R122),
the message words `X[0..15]` (R24) and the step index `i` (R26). -/
structure XformRegs where
  acc : Words4
  x : Vector Word 16
  i : BitVec 6
deriving DecidableEq, Repr

/-- Whose chaining state a transform invocation works on: the live `H` (a block of WRITE) or
the duplicate's `H'` (a block of SUM's Finalizer), which are never aliased (R34, R178). -/
inductive Caller where
  | live
  | dup
deriving DecidableEq, Repr

/-- Why the machine stops with a fault: it never does. Every command ends with a response, and
there is no stuck state (R225), so the type has no constructor. -/
inductive Fault where
deriving DecidableEq, Repr

/-- Why the model has no step. -/
inductive Refusal where
  /-- Raised by `exec`'s arm of an instruction that has no meaning yet; safe. -/
  | notModelled (mnemonic : String)
  /-- Raised by `step` on a submission that hands an operand over with a command that takes none,
  which is no command of R81, R82 (log 7); safe: the model stops. -/
  | strayOperand (word : Byte)
  /-- Raised by `step` on a submission whose operand has 2^64 bytes or more, which R51, R83
  exclude (log 7); safe: the model stops. -/
  | operandTooLong (word : Byte)
deriving DecidableEq, Repr

/-- The state of the machine. -/
structure State where
  /-- `H`, `BUF`, `LEN` of the instance (R20). -/
  inst : Instance
  /-- The registers of the transform (R23, R24, R26). -/
  xform : XformRegs
  /-- SUM's duplicate `H'`, `BUF'`, `LEN'` (R34, R170). -/
  dup : Instance
  /-- A transform invocation in progress, and for whom; `none` between commands (R35). -/
  busy : Option Caller
  /-- The commands the host has issued and the engine has not taken yet, in order (R63; log 2). -/
  pending : List Submission
  /-- The responses given so far, oldest first (R84; log 2). -/
  responses : List Response
  /-- The model's own: how many free values have been drawn (log 5). -/
  freeCount : Nat
deriving DecidableEq, Repr

/-- The instance right after NEW, RESET or power-on (R38, R250, R251). -/
def Instance.reset : Instance where
  h := Config.init
  buf := []
  len := 0

/-- The machine right after power-on (R38, R251): the instance in the reset state, nothing in
flight, nothing issued and nothing answered. The registers that "hold no value between
commands" are named zero, the duplicate the reset instance (DESIGN CHOICE, log 4). -/
def State.reset : State where
  inst := Instance.reset
  xform := ⟨⟨0, 0, 0, 0⟩, Vector.replicate 16 0, 0⟩
  dup := Instance.reset
  busy := none
  pending := []
  responses := []
  freeCount := 0

end Sys2Proof.Machine
end

