-- ==== Sys2Proof/Machine/Operands.lean ====
section
/-! DEFINITION. How the engine assembles and takes apart its operands: byte order (R14, R52 to
R56), the word operators (R14, R128), the four bitwise functions (R114 to R117), the schedules
of the transform (R118 to R120), and the fields of the checkpoint (R89, R193). -/

namespace Sys2Proof.Machine

/-! ### Bytes -/

/-- Byte `j` of a sequence, `s[j]` (R12). The rules read a sequence only inside its length;
outside it this is 0, which no rule reaches (log 11). -/
def byteAt (s : List Byte) (j : Nat) : Byte := s.getD j 0

/-- `s[lo .. lo+n)` (R12). -/
def slice (s : List Byte) (lo n : Nat) : List Byte := (s.drop lo).take n

/-- `rep(b, n)` (R12). -/
def rep (b : Byte) (n : Nat) : List Byte := List.replicate n b

/-- `le32` (R14): the low byte first. -/
def le32 (w : Word) : List Byte :=
  [w.extractLsb' 0 8, w.extractLsb' 8 8, w.extractLsb' 16 8, w.extractLsb' 24 8]

/-- `be32` (R14): the high byte first. -/
def be32 (w : Word) : List Byte :=
  [w.extractLsb' 24 8, w.extractLsb' 16 8, w.extractLsb' 8 8, w.extractLsb' 0 8]

/-- `le64` (R14). -/
def le64 (v : DWord) : List Byte :=
  [v.extractLsb' 0 8, v.extractLsb' 8 8, v.extractLsb' 16 8, v.extractLsb' 24 8,
   v.extractLsb' 32 8, v.extractLsb' 40 8, v.extractLsb' 48 8, v.extractLsb' 56 8]

/-- `be64` (R14). -/
def be64 (v : DWord) : List Byte :=
  [v.extractLsb' 56 8, v.extractLsb' 48 8, v.extractLsb' 40 8, v.extractLsb' 32 8,
   v.extractLsb' 24 8, v.extractLsb' 16 8, v.extractLsb' 8 8, v.extractLsb' 0 8]

/-- `unle32(s[j .. j+4))` (R14): `s[j]` is the least significant byte. -/
def unle32 (s : List Byte) (j : Nat) : Word :=
  BitVec.ofNat 32
    ((byteAt s j).toNat + 2 ^ 8 * (byteAt s (j + 1)).toNat + 2 ^ 16 * (byteAt s (j + 2)).toNat +
      2 ^ 24 * (byteAt s (j + 3)).toNat)

/-- `unbe32(s[j .. j+4))` (R14): `s[j]` is the most significant byte. -/
def unbe32 (s : List Byte) (j : Nat) : Word :=
  BitVec.ofNat 32
    (2 ^ 24 * (byteAt s j).toNat + 2 ^ 16 * (byteAt s (j + 1)).toNat +
      2 ^ 8 * (byteAt s (j + 2)).toNat + (byteAt s (j + 3)).toNat)

/-- `unbe64(s[j .. j+8))` (R14). -/
def unbe64 (s : List Byte) (j : Nat) : DWord :=
  BitVec.ofNat 64
    (2 ^ 56 * (byteAt s j).toNat + 2 ^ 48 * (byteAt s (j + 1)).toNat +
      2 ^ 40 * (byteAt s (j + 2)).toNat + 2 ^ 32 * (byteAt s (j + 3)).toNat +
      2 ^ 24 * (byteAt s (j + 4)).toNat + 2 ^ 16 * (byteAt s (j + 5)).toNat +
      2 ^ 8 * (byteAt s (j + 6)).toNat + (byteAt s (j + 7)).toNat)

/-! ### Words -/

/-- `rotl32(x, s)` for 0 < s < 32 (R14). The transform rotates by 4 to 23 only (R119). -/
def rotl32 (x : Word) (s : Nat) : Word := (x <<< s) ||| (x >>> (32 - s))

/-- The bitwise function of round 0 (R114). -/
def f0 (x y z : Word) : Word := (x &&& y) ||| (~~~x &&& z)

/-- The bitwise function of round 1 (R115). -/
def f1 (x y z : Word) : Word := (x &&& z) ||| (y &&& ~~~z)

/-- The bitwise function of round 2 (R116). -/
def f2 (x y z : Word) : Word := x ^^^ y ^^^ z

/-- The bitwise function of round 3 (R117). -/
def f3 (x y z : Word) : Word := y ^^^ (x ||| ~~~z)

/-- Addition of four words modulo 2^32, word by word (R123). -/
def addWords (h r : Words4) : Words4 := ⟨h.a + r.a, h.b + r.b, h.c + r.c, h.d + r.d⟩

/-- The message words of a block, `X[j] = unle32(blk[4j .. 4j+4))` (R52, R111). -/
def msgWords (blk : List Byte) : Vector Word 16 :=
  #v[unle32 blk 0, unle32 blk 4, unle32 blk 8, unle32 blk 12,
     unle32 blk 16, unle32 blk 20, unle32 blk 24, unle32 blk 28,
     unle32 blk 32, unle32 blk 36, unle32 blk 40, unle32 blk 44,
     unle32 blk 48, unle32 blk 52, unle32 blk 56, unle32 blk 60]

/-- The digest of a finalized state (R53, R90, R175). -/
def digestBytes (h : Words4) : List Byte := le32 h.a ++ le32 h.b ++ le32 h.c ++ le32 h.d

/-! ### The counter -/

/-- `NX`, the length of the Pending Buffer (R30). -/
def Instance.nx (m : Instance) : Nat := m.buf.length

/-- One byte of the Pending Buffer, `BUF[j]`; nothing at offsets NX and above (R15, R33). -/
def Instance.byteAt (m : Instance) (j : Nat) : Option Byte := m.buf[j]?

/-- `LEN +64 n` for an operand of n bytes (R29, R160). -/
def addLen (len : DWord) (n : Nat) : DWord := len + BitVec.ofNat 64 n

/-- `LEN mod 64`, the low six bits of the whole counter (R30, R87 (c), R198). -/
def pendingLen (len : DWord) : Nat := (len.extractLsb' 0 6).toNat

/-- `(LEN * 8) mod 2^64`: a left shift by 3, the top three bits dropped (R87 (b), R173). -/
def bitLen (len : DWord) : DWord := len <<< 3

/-! ### The schedules of the transform, as one function of the step index each -/

/-- The round r = i >> 4 (R86, R113). -/
def roundOf (i : Nat) : Nat := i / 16

/-- The bitwise function of a round (R114 to R117). -/
def fRound (r : Nat) : Word → Word → Word → Word :=
  match r with
  | 0 => f0
  | 1 => f1
  | 2 => f2
  | _ => f3

/-- `G[i]` (R118). -/
def gIndex (i : Nat) : Fin 16 :=
  match roundOf i with
  | 0 => Fin.ofNat 16 i
  | 1 => Fin.ofNat 16 (5 * i + 1)
  | 2 => Fin.ofNat 16 (3 * i + 5)
  | _ => Fin.ofNat 16 (7 * i)

/-- `SROW` (R86, R119). -/
def sRow (r : Nat) : List Nat :=
  match r with
  | 0 => [7, 12, 17, 22]
  | 1 => [5, 9, 14, 20]
  | 2 => [4, 11, 16, 23]
  | _ => [6, 10, 15, 21]

/-- `S[i]` (R86, R119). -/
def sAmount (i : Nat) : Nat := (sRow (roundOf i)).getD (i % 4) 0

/-- `K[0..15]` (R120). -/
def kRound0 : List Word :=
  [0xd76aa478, 0xe8c7b756, 0x242070db, 0xc1bdceee, 0xf57c0faf, 0x4787c62a, 0xa8304613, 0xfd469501,
   0x698098d8, 0x8b44f7af, 0xffff5bb1, 0x895cd7be, 0x6b901122, 0xfd987193, 0xa679438e, 0x49b40821]

/-- `K[16..31]` (R120). -/
def kRound1 : List Word :=
  [0xf61e2562, 0xc040b340, 0x265e5a51, 0xe9b6c7aa, 0xd62f105d, 0x02441453, 0xd8a1e681, 0xe7d3fbc8,
   0x21e1cde6, 0xc33707d6, 0xf4d50d87, 0x455a14ed, 0xa9e3e905, 0xfcefa3f8, 0x676f02d9, 0x8d2a4c8a]

/-- `K[32..47]` (R120). -/
def kRound2 : List Word :=
  [0xfffa3942, 0x8771f681, 0x6d9d6122, 0xfde5380c, 0xa4beea44, 0x4bdecfa9, 0xf6bb4b60, 0xbebfbc70,
   0x289b7ec6, 0xeaa127fa, 0xd4ef3085, 0x04881d05, 0xd9d4d039, 0xe6db99e5, 0x1fa27cf8, 0xc4ac5665]

/-- `K[48..63]` (R120). -/
def kRound3 : List Word :=
  [0xf4292244, 0x432aff97, 0xab9423a7, 0xfc93a039, 0x655b59c3, 0x8f0ccc92, 0xffeff47d, 0x85845dd1,
   0x6fa87e4f, 0xfe2ce6e0, 0xa3014314, 0x4e0811a1, 0xf7537e82, 0xbd3af235, 0x2ad7d2bb, 0xeb86d391]

/-- `K[i]` (R120). -/
def kConst (i : Nat) : Word :=
  match roundOf i with
  | 0 => kRound0.getD (i % 16) 0
  | 1 => kRound1.getD (i % 16) 0
  | 2 => kRound2.getD (i % 16) 0
  | _ => kRound3.getD (i % 16) 0

end Sys2Proof.Machine
end

