-- ==== Sys2Proof/Machine/Flags.lean ====
section
/-! DEFINITION. The engine has no status flags (R28): the only condition it computes is whether
a RESTORE operand is acceptable, which becomes the status of the response (R221, R222). The
numeric codes of the conditions are here too. -/

namespace Sys2Proof.Machine

/-- The status codes (R221, decision D14). -/
def Status.code : Status → Nat
  | .ok => 0
  | .invalidState => 1
  | .badCommand => 2

/-- The cause codes (R221, decision D14). -/
def Cause.code : Cause → Nat
  | .badTag => 1
  | .badVersion => 2
  | .badLength => 3

/-- RESTORE's checks, in the order tag, version, length (R196, R197, R221, decision D7): `none`
when the operand is acceptable. -/
def restoreCheck (s : List Byte) : Option Cause :=
  if s.length < 3 ∨ s.take 3 ≠ Config.ckptTag then some .badTag
  else if s.length < 4 ∨ byteAt s 3 ≠ Config.ckptVersion then some .badVersion
  else if s.length ≠ Config.ckptSize then some .badLength
  else none

end Sys2Proof.Machine
end

