-- ==== Sys2Proof/Machine/Ops.lean ====
section
/-! DEFINITION. The named operations over the state: taking a command and answering it, raising
the one error, working on the instance and its duplicate, and the beginning, advance and end of
a transform invocation. -/

namespace Sys2Proof.Machine

/-! ### Commands and responses -/

/-- The host issues a command: it is taken after those issued before it (R63, R256). -/
def submit (c : Submission) (s : State) : State := { s with pending := s.pending ++ [c] }

/-- The response that ends a command (R84): given once, after those before it. -/
def respond (r : Response) (s : State) : State := { s with responses := s.responses ++ [r] }

/-- `respond(OK, payload)` (R15, R84). -/
def respondOk (p : Payload) (s : State) : State := respond ⟨.ok, none, p⟩ s

/-- TAKING THE ENGINE'S ONE EXCEPTION, `raise InvalidState(cause)` (R15, R223): the command ends
with the error response and an empty payload, and nothing else changes. There is no saved
register, no vector and no mode (R223, R228), and no return instruction: the next command runs
normally (R229). -/
def raiseInvalidState (c : Cause) (s : State) : State := respond ⟨.invalidState, some c, .none⟩ s

/-- The answer to a reserved command word: `BadCommand`, the instance unchanged (R91, R221). -/
def badCommand (s : State) : State := respond ⟨.badCommand, none, .none⟩ s

/-! ### The instance and its duplicate -/

/-- Replaces the three pieces of state of the instance. -/
def setInstance (m : Instance) (s : State) : State := { s with inst := m }

/-- The value copy SUM works on (R34, R153, R178). -/
def takeDuplicate (s : State) : State := { s with dup := s.inst }

/-- After SUM the duplicate is gone (R34): it holds free values (log 5). -/
def dropDuplicate (s : State) : State :=
  { s with
    dup :=
      { h := ⟨Config.freeWord s.freeCount 20, Config.freeWord s.freeCount 21,
              Config.freeWord s.freeCount 22, Config.freeWord s.freeCount 23⟩
        buf := Config.freeBytes s.freeCount
        len := Config.freeDWord s.freeCount }
    freeCount := s.freeCount + 1 }

/-! ### A transform invocation -/

/-- After an invocation the transform's registers hold no value (R23, R24, R26): free values
(log 5). -/
def dropXform (s : State) : State :=
  { s with
    xform :=
      { acc := ⟨Config.freeWord s.freeCount 0, Config.freeWord s.freeCount 1,
                Config.freeWord s.freeCount 2, Config.freeWord s.freeCount 3⟩
        x := Vector.ofFn fun j => Config.freeWord s.freeCount (4 + j.val)
        i := Config.freeIndex s.freeCount }
    freeCount := s.freeCount + 1 }

/-- The chaining state an invocation works on (R34, R178). -/
def chaining (c : Caller) (s : State) : Words4 :=
  match c with
  | .live => s.inst.h
  | .dup => s.dup.h

/-- Writes the chaining state in one piece (R59). -/
def setChaining (c : Caller) (h : Words4) (s : State) : State :=
  match c with
  | .live => { s with inst := { s.inst with h := h } }
  | .dup => { s with dup := { s.dup with h := h } }

/-- The transform's registers at the start of an invocation (R111, R112, R26): the message words
of the block, the accumulators a copy of the chaining state, the step index 0. -/
def loadXform (h : Words4) (blk : List Byte) : XformRegs := ⟨h, msgWords blk, 0⟩

/-- The machine at the start of a transform invocation on one block (R125). -/
def beginTransform (c : Caller) (blk : List Byte) (s : State) : State :=
  { s with xform := loadXform (chaining c s) blk, busy := some c }

/-- The end of an invocation (R123): the accumulators are added to the chaining state, which the
steps have left untouched. -/
def finishTransform (c : Caller) (s : State) : State :=
  dropXform { setChaining c (addWords (chaining c s) s.xform.acc) s with busy := none }

/-- What follows a step (R26, R125): the step index advances by 1; after the step with i = 63
the invocation ends instead, and i does not go from 63 to 0. -/
def advance (c : Caller) (s : State) : State :=
  if s.xform.i = 63 then finishTransform c s
  else { s with xform := { s.xform with i := s.xform.i + 1 } }

/-! ### What the machine runs next -/

/-- The next instruction's encoding: the step the step index selects while an invocation is in
progress (R85), otherwise the first command the host has issued (R63). -/
def fetch (s : State) : Option Encoding :=
  match s.busy with
  | some _ => some (.step s.xform.i)
  | none =>
    match s.pending with
    | [] => none
    | c :: _ => some (.cmd c)

/-- Taking a command removes it from those issued; a step is no command. -/
def consume (s : State) : State :=
  match s.busy with
  | some _ => s
  | none => { s with pending := s.pending.tail }

/-- What the sequencing does after an instruction that ran: it advances an invocation that was
in progress (R26), and nothing after a command (R35). -/
def afterward (b : Option Caller) (s : State) : State :=
  match b with
  | some c => advance c s
  | none => s

end Sys2Proof.Machine
end

