-- ==== Sys2Proof/Machine/Transform.lean ====
section
/-! DEFINITION. The Compression Transform: the 64 steps in the fixed-register form (R122, R300
to R363), the meaning of each STEP instruction, the whole function (R125), and the
rotating-role form of the same function (R121, R125), to which the first is to be proved
equal (R122). -/

namespace Sys2Proof.Machine

/-! ### The four shapes of a step (R122)

`f` is the round's bitwise function, `g` the index of the message word, `k` the additive
constant, `n` the rotation amount. Each writes exactly one register; the old value is read
before the new one is written. -/

/-- i mod 4 = 0: the step writes A. -/
def writesA (f : Word → Word → Word → Word) (g : Fin 16) (k : Word) (n : Nat) (u : XformRegs) :
    XformRegs :=
  { u with acc := { u.acc with
      a := u.acc.b + rotl32 (u.acc.a + f u.acc.b u.acc.c u.acc.d + u.x[g] + k) n } }

/-- i mod 4 = 1: the step writes D. -/
def writesD (f : Word → Word → Word → Word) (g : Fin 16) (k : Word) (n : Nat) (u : XformRegs) :
    XformRegs :=
  { u with acc := { u.acc with
      d := u.acc.a + rotl32 (u.acc.d + f u.acc.a u.acc.b u.acc.c + u.x[g] + k) n } }

/-- i mod 4 = 2: the step writes C. -/
def writesC (f : Word → Word → Word → Word) (g : Fin 16) (k : Word) (n : Nat) (u : XformRegs) :
    XformRegs :=
  { u with acc := { u.acc with
      c := u.acc.d + rotl32 (u.acc.c + f u.acc.d u.acc.a u.acc.b + u.x[g] + k) n } }

/-- i mod 4 = 3: the step writes B. -/
def writesB (f : Word → Word → Word → Word) (g : Fin 16) (k : Word) (n : Nat) (u : XformRegs) :
    XformRegs :=
  { u with acc := { u.acc with
      b := u.acc.c + rotl32 (u.acc.b + f u.acc.c u.acc.d u.acc.a + u.x[g] + k) n } }

/-! ### The steps of round 0, function `f0` (R300 to R315) -/

/-- STEP 0 (R300). -/
def xstep0 : XformRegs → XformRegs := writesA f0 0 0xd76aa478 7
/-- STEP 1 (R301). -/
def xstep1 : XformRegs → XformRegs := writesD f0 1 0xe8c7b756 12
/-- STEP 2 (R302). -/
def xstep2 : XformRegs → XformRegs := writesC f0 2 0x242070db 17
/-- STEP 3 (R303). -/
def xstep3 : XformRegs → XformRegs := writesB f0 3 0xc1bdceee 22
/-- STEP 4 (R304). -/
def xstep4 : XformRegs → XformRegs := writesA f0 4 0xf57c0faf 7
/-- STEP 5 (R305). -/
def xstep5 : XformRegs → XformRegs := writesD f0 5 0x4787c62a 12
/-- STEP 6 (R306). -/
def xstep6 : XformRegs → XformRegs := writesC f0 6 0xa8304613 17
/-- STEP 7 (R307). -/
def xstep7 : XformRegs → XformRegs := writesB f0 7 0xfd469501 22
/-- STEP 8 (R308). -/
def xstep8 : XformRegs → XformRegs := writesA f0 8 0x698098d8 7
/-- STEP 9 (R309). -/
def xstep9 : XformRegs → XformRegs := writesD f0 9 0x8b44f7af 12
/-- STEP 10 (R310). -/
def xstep10 : XformRegs → XformRegs := writesC f0 10 0xffff5bb1 17
/-- STEP 11 (R311). -/
def xstep11 : XformRegs → XformRegs := writesB f0 11 0x895cd7be 22
/-- STEP 12 (R312). -/
def xstep12 : XformRegs → XformRegs := writesA f0 12 0x6b901122 7
/-- STEP 13 (R313). -/
def xstep13 : XformRegs → XformRegs := writesD f0 13 0xfd987193 12
/-- STEP 14 (R314). -/
def xstep14 : XformRegs → XformRegs := writesC f0 14 0xa679438e 17
/-- STEP 15 (R315). -/
def xstep15 : XformRegs → XformRegs := writesB f0 15 0x49b40821 22

/-! ### The steps of round 1, function `f1` (R316 to R331) -/

/-- STEP 16 (R316). -/
def xstep16 : XformRegs → XformRegs := writesA f1 1 0xf61e2562 5
/-- STEP 17 (R317). -/
def xstep17 : XformRegs → XformRegs := writesD f1 6 0xc040b340 9
/-- STEP 18 (R318). -/
def xstep18 : XformRegs → XformRegs := writesC f1 11 0x265e5a51 14
/-- STEP 19 (R319). -/
def xstep19 : XformRegs → XformRegs := writesB f1 0 0xe9b6c7aa 20
/-- STEP 20 (R320). -/
def xstep20 : XformRegs → XformRegs := writesA f1 5 0xd62f105d 5
/-- STEP 21 (R321). -/
def xstep21 : XformRegs → XformRegs := writesD f1 10 0x02441453 9
/-- STEP 22 (R322). -/
def xstep22 : XformRegs → XformRegs := writesC f1 15 0xd8a1e681 14
/-- STEP 23 (R323). -/
def xstep23 : XformRegs → XformRegs := writesB f1 4 0xe7d3fbc8 20
/-- STEP 24 (R324). -/
def xstep24 : XformRegs → XformRegs := writesA f1 9 0x21e1cde6 5
/-- STEP 25 (R325). -/
def xstep25 : XformRegs → XformRegs := writesD f1 14 0xc33707d6 9
/-- STEP 26 (R326). -/
def xstep26 : XformRegs → XformRegs := writesC f1 3 0xf4d50d87 14
/-- STEP 27 (R327). -/
def xstep27 : XformRegs → XformRegs := writesB f1 8 0x455a14ed 20
/-- STEP 28 (R328). -/
def xstep28 : XformRegs → XformRegs := writesA f1 13 0xa9e3e905 5
/-- STEP 29 (R329). -/
def xstep29 : XformRegs → XformRegs := writesD f1 2 0xfcefa3f8 9
/-- STEP 30 (R330). -/
def xstep30 : XformRegs → XformRegs := writesC f1 7 0x676f02d9 14
/-- STEP 31 (R331). -/
def xstep31 : XformRegs → XformRegs := writesB f1 12 0x8d2a4c8a 20

/-! ### The steps of round 2, function `f2` (R332 to R347) -/

/-- STEP 32 (R332). -/
def xstep32 : XformRegs → XformRegs := writesA f2 5 0xfffa3942 4
/-- STEP 33 (R333). -/
def xstep33 : XformRegs → XformRegs := writesD f2 8 0x8771f681 11
/-- STEP 34 (R334). -/
def xstep34 : XformRegs → XformRegs := writesC f2 11 0x6d9d6122 16
/-- STEP 35 (R335). -/
def xstep35 : XformRegs → XformRegs := writesB f2 14 0xfde5380c 23
/-- STEP 36 (R336). -/
def xstep36 : XformRegs → XformRegs := writesA f2 1 0xa4beea44 4
/-- STEP 37 (R337). -/
def xstep37 : XformRegs → XformRegs := writesD f2 4 0x4bdecfa9 11
/-- STEP 38 (R338). -/
def xstep38 : XformRegs → XformRegs := writesC f2 7 0xf6bb4b60 16
/-- STEP 39 (R339). -/
def xstep39 : XformRegs → XformRegs := writesB f2 10 0xbebfbc70 23
/-- STEP 40 (R340). -/
def xstep40 : XformRegs → XformRegs := writesA f2 13 0x289b7ec6 4
/-- STEP 41 (R341). -/
def xstep41 : XformRegs → XformRegs := writesD f2 0 0xeaa127fa 11
/-- STEP 42 (R342). -/
def xstep42 : XformRegs → XformRegs := writesC f2 3 0xd4ef3085 16
/-- STEP 43 (R343). -/
def xstep43 : XformRegs → XformRegs := writesB f2 6 0x04881d05 23
/-- STEP 44 (R344). -/
def xstep44 : XformRegs → XformRegs := writesA f2 9 0xd9d4d039 4
/-- STEP 45 (R345). -/
def xstep45 : XformRegs → XformRegs := writesD f2 12 0xe6db99e5 11
/-- STEP 46 (R346). -/
def xstep46 : XformRegs → XformRegs := writesC f2 15 0x1fa27cf8 16
/-- STEP 47 (R347). -/
def xstep47 : XformRegs → XformRegs := writesB f2 2 0xc4ac5665 23

/-! ### The steps of round 3, function `f3` (R348 to R363) -/

/-- STEP 48 (R348). -/
def xstep48 : XformRegs → XformRegs := writesA f3 0 0xf4292244 6
/-- STEP 49 (R349). -/
def xstep49 : XformRegs → XformRegs := writesD f3 7 0x432aff97 10
/-- STEP 50 (R350). -/
def xstep50 : XformRegs → XformRegs := writesC f3 14 0xab9423a7 15
/-- STEP 51 (R351). -/
def xstep51 : XformRegs → XformRegs := writesB f3 5 0xfc93a039 21
/-- STEP 52 (R352). -/
def xstep52 : XformRegs → XformRegs := writesA f3 12 0x655b59c3 6
/-- STEP 53 (R353). -/
def xstep53 : XformRegs → XformRegs := writesD f3 3 0x8f0ccc92 10
/-- STEP 54 (R354). -/
def xstep54 : XformRegs → XformRegs := writesC f3 10 0xffeff47d 15
/-- STEP 55 (R355). -/
def xstep55 : XformRegs → XformRegs := writesB f3 1 0x85845dd1 21
/-- STEP 56 (R356). -/
def xstep56 : XformRegs → XformRegs := writesA f3 8 0x6fa87e4f 6
/-- STEP 57 (R357). -/
def xstep57 : XformRegs → XformRegs := writesD f3 15 0xfe2ce6e0 10
/-- STEP 58 (R358). -/
def xstep58 : XformRegs → XformRegs := writesC f3 6 0xa3014314 15
/-- STEP 59 (R359). -/
def xstep59 : XformRegs → XformRegs := writesB f3 13 0x4e0811a1 21
/-- STEP 60 (R360). -/
def xstep60 : XformRegs → XformRegs := writesA f3 4 0xf7537e82 6
/-- STEP 61 (R361). -/
def xstep61 : XformRegs → XformRegs := writesD f3 11 0xbd3af235 10
/-- STEP 62 (R362). -/
def xstep62 : XformRegs → XformRegs := writesC f3 2 0x2ad7d2bb 15
/-- STEP 63 (R363). -/
def xstep63 : XformRegs → XformRegs := writesB f3 9 0xeb86d391 21

/-! ### The whole function -/

/-- The steps of round 0 in order (R113). -/
def xround0 : List (XformRegs → XformRegs) :=
  [xstep0, xstep1, xstep2, xstep3, xstep4, xstep5, xstep6, xstep7,
   xstep8, xstep9, xstep10, xstep11, xstep12, xstep13, xstep14, xstep15]

/-- The steps of round 1 in order (R113). -/
def xround1 : List (XformRegs → XformRegs) :=
  [xstep16, xstep17, xstep18, xstep19, xstep20, xstep21, xstep22, xstep23,
   xstep24, xstep25, xstep26, xstep27, xstep28, xstep29, xstep30, xstep31]

/-- The steps of round 2 in order (R113). -/
def xround2 : List (XformRegs → XformRegs) :=
  [xstep32, xstep33, xstep34, xstep35, xstep36, xstep37, xstep38, xstep39,
   xstep40, xstep41, xstep42, xstep43, xstep44, xstep45, xstep46, xstep47]

/-- The steps of round 3 in order (R113). -/
def xround3 : List (XformRegs → XformRegs) :=
  [xstep48, xstep49, xstep50, xstep51, xstep52, xstep53, xstep54, xstep55,
   xstep56, xstep57, xstep58, xstep59, xstep60, xstep61, xstep62, xstep63]

/-- All 64 steps in increasing i, none skipped, repeated or reordered (R113). -/
def xsteps : List (XformRegs → XformRegs) := xround0 ++ xround1 ++ xround2 ++ xround3

/-- `Transform(h, blk)` (R110, R125): load the registers (R111, R112), run the 64 steps, add the
accumulators to the state passed in (R123). -/
def transform (h : Words4) (blk : List Byte) : Words4 :=
  addWords h (xsteps.foldl (fun u f => f u) (loadXform h blk)).acc

/-- Transforming `q` blocks of 64 bytes from the front of a sequence, in order: the chaining
state after them, and the bytes that are left (R152, R174). -/
def absorb : Nat → Words4 → List Byte → Words4 × List Byte
  | 0, h, t => (h, t)
  | q + 1, h, t =>
    absorb q (transform h (t.take Config.blockSize)) (t.drop Config.blockSize)

/-! ### The rotating-role form (R121, R125) -/

/-- One step of the rotating-role form (R121): all four accumulators change places. -/
def rotatingStep (x : Vector Word 16) (i : Nat) (r : Words4) : Words4 :=
  let t := r.a + fRound (roundOf i) r.b r.c r.d + x[gIndex i] + kConst i
  ⟨r.d, r.b + rotl32 t (sAmount i), r.b, r.c⟩

/-- The loop `while i <= 63` of R125, from step `i` on for `n` steps. -/
def rotatingSteps (x : Vector Word 16) : Nat → Nat → Words4 → Words4
  | 0, _, r => r
  | n + 1, i, r => rotatingSteps x n (i + 1) (rotatingStep x i r)

/-- R125 to the letter. -/
def rotatingTransform (h : Words4) (blk : List Byte) : Words4 :=
  addWords h (rotatingSteps (msgWords blk) 64 0 h)

/-! ### The meanings of the STEP instructions -/

/-- A step works on the registers of the transform and on nothing else (R21, R110). -/
def onXform (f : XformRegs → XformRegs) (s : State) : Host.Outcome State Fault Refusal :=
  .next { s with xform := f s.xform }

/-- STEP 0 (R300). -/
def execStep0 (s : State) : Host.Outcome State Fault Refusal := onXform xstep0 s
/-- STEP 1 (R301). -/
def execStep1 (s : State) : Host.Outcome State Fault Refusal := onXform xstep1 s
/-- STEP 2 (R302). -/
def execStep2 (s : State) : Host.Outcome State Fault Refusal := onXform xstep2 s
/-- STEP 3 (R303). -/
def execStep3 (s : State) : Host.Outcome State Fault Refusal := onXform xstep3 s
/-- STEP 4 (R304). -/
def execStep4 (s : State) : Host.Outcome State Fault Refusal := onXform xstep4 s
/-- STEP 5 (R305). -/
def execStep5 (s : State) : Host.Outcome State Fault Refusal := onXform xstep5 s
/-- STEP 6 (R306). -/
def execStep6 (s : State) : Host.Outcome State Fault Refusal := onXform xstep6 s
/-- STEP 7 (R307). -/
def execStep7 (s : State) : Host.Outcome State Fault Refusal := onXform xstep7 s
/-- STEP 8 (R308). -/
def execStep8 (s : State) : Host.Outcome State Fault Refusal := onXform xstep8 s
/-- STEP 9 (R309). -/
def execStep9 (s : State) : Host.Outcome State Fault Refusal := onXform xstep9 s
/-- STEP 10 (R310). -/
def execStep10 (s : State) : Host.Outcome State Fault Refusal := onXform xstep10 s
/-- STEP 11 (R311). -/
def execStep11 (s : State) : Host.Outcome State Fault Refusal := onXform xstep11 s
/-- STEP 12 (R312). -/
def execStep12 (s : State) : Host.Outcome State Fault Refusal := onXform xstep12 s
/-- STEP 13 (R313). -/
def execStep13 (s : State) : Host.Outcome State Fault Refusal := onXform xstep13 s
/-- STEP 14 (R314). -/
def execStep14 (s : State) : Host.Outcome State Fault Refusal := onXform xstep14 s
/-- STEP 15 (R315). -/
def execStep15 (s : State) : Host.Outcome State Fault Refusal := onXform xstep15 s
/-- STEP 16 (R316). -/
def execStep16 (s : State) : Host.Outcome State Fault Refusal := onXform xstep16 s
/-- STEP 17 (R317). -/
def execStep17 (s : State) : Host.Outcome State Fault Refusal := onXform xstep17 s
/-- STEP 18 (R318). -/
def execStep18 (s : State) : Host.Outcome State Fault Refusal := onXform xstep18 s
/-- STEP 19 (R319). -/
def execStep19 (s : State) : Host.Outcome State Fault Refusal := onXform xstep19 s
/-- STEP 20 (R320). -/
def execStep20 (s : State) : Host.Outcome State Fault Refusal := onXform xstep20 s
/-- STEP 21 (R321). -/
def execStep21 (s : State) : Host.Outcome State Fault Refusal := onXform xstep21 s
/-- STEP 22 (R322). -/
def execStep22 (s : State) : Host.Outcome State Fault Refusal := onXform xstep22 s
/-- STEP 23 (R323). -/
def execStep23 (s : State) : Host.Outcome State Fault Refusal := onXform xstep23 s
/-- STEP 24 (R324). -/
def execStep24 (s : State) : Host.Outcome State Fault Refusal := onXform xstep24 s
/-- STEP 25 (R325). -/
def execStep25 (s : State) : Host.Outcome State Fault Refusal := onXform xstep25 s
/-- STEP 26 (R326). -/
def execStep26 (s : State) : Host.Outcome State Fault Refusal := onXform xstep26 s
/-- STEP 27 (R327). -/
def execStep27 (s : State) : Host.Outcome State Fault Refusal := onXform xstep27 s
/-- STEP 28 (R328). -/
def execStep28 (s : State) : Host.Outcome State Fault Refusal := onXform xstep28 s
/-- STEP 29 (R329). -/
def execStep29 (s : State) : Host.Outcome State Fault Refusal := onXform xstep29 s
/-- STEP 30 (R330). -/
def execStep30 (s : State) : Host.Outcome State Fault Refusal := onXform xstep30 s
/-- STEP 31 (R331). -/
def execStep31 (s : State) : Host.Outcome State Fault Refusal := onXform xstep31 s
/-- STEP 32 (R332). -/
def execStep32 (s : State) : Host.Outcome State Fault Refusal := onXform xstep32 s
/-- STEP 33 (R333). -/
def execStep33 (s : State) : Host.Outcome State Fault Refusal := onXform xstep33 s
/-- STEP 34 (R334). -/
def execStep34 (s : State) : Host.Outcome State Fault Refusal := onXform xstep34 s
/-- STEP 35 (R335). -/
def execStep35 (s : State) : Host.Outcome State Fault Refusal := onXform xstep35 s
/-- STEP 36 (R336). -/
def execStep36 (s : State) : Host.Outcome State Fault Refusal := onXform xstep36 s
/-- STEP 37 (R337). -/
def execStep37 (s : State) : Host.Outcome State Fault Refusal := onXform xstep37 s
/-- STEP 38 (R338). -/
def execStep38 (s : State) : Host.Outcome State Fault Refusal := onXform xstep38 s
/-- STEP 39 (R339). -/
def execStep39 (s : State) : Host.Outcome State Fault Refusal := onXform xstep39 s
/-- STEP 40 (R340). -/
def execStep40 (s : State) : Host.Outcome State Fault Refusal := onXform xstep40 s
/-- STEP 41 (R341). -/
def execStep41 (s : State) : Host.Outcome State Fault Refusal := onXform xstep41 s
/-- STEP 42 (R342). -/
def execStep42 (s : State) : Host.Outcome State Fault Refusal := onXform xstep42 s
/-- STEP 43 (R343). -/
def execStep43 (s : State) : Host.Outcome State Fault Refusal := onXform xstep43 s
/-- STEP 44 (R344). -/
def execStep44 (s : State) : Host.Outcome State Fault Refusal := onXform xstep44 s
/-- STEP 45 (R345). -/
def execStep45 (s : State) : Host.Outcome State Fault Refusal := onXform xstep45 s
/-- STEP 46 (R346). -/
def execStep46 (s : State) : Host.Outcome State Fault Refusal := onXform xstep46 s
/-- STEP 47 (R347). -/
def execStep47 (s : State) : Host.Outcome State Fault Refusal := onXform xstep47 s
/-- STEP 48 (R348). -/
def execStep48 (s : State) : Host.Outcome State Fault Refusal := onXform xstep48 s
/-- STEP 49 (R349). -/
def execStep49 (s : State) : Host.Outcome State Fault Refusal := onXform xstep49 s
/-- STEP 50 (R350). -/
def execStep50 (s : State) : Host.Outcome State Fault Refusal := onXform xstep50 s
/-- STEP 51 (R351). -/
def execStep51 (s : State) : Host.Outcome State Fault Refusal := onXform xstep51 s
/-- STEP 52 (R352). -/
def execStep52 (s : State) : Host.Outcome State Fault Refusal := onXform xstep52 s
/-- STEP 53 (R353). -/
def execStep53 (s : State) : Host.Outcome State Fault Refusal := onXform xstep53 s
/-- STEP 54 (R354). -/
def execStep54 (s : State) : Host.Outcome State Fault Refusal := onXform xstep54 s
/-- STEP 55 (R355). -/
def execStep55 (s : State) : Host.Outcome State Fault Refusal := onXform xstep55 s
/-- STEP 56 (R356). -/
def execStep56 (s : State) : Host.Outcome State Fault Refusal := onXform xstep56 s
/-- STEP 57 (R357). -/
def execStep57 (s : State) : Host.Outcome State Fault Refusal := onXform xstep57 s
/-- STEP 58 (R358). -/
def execStep58 (s : State) : Host.Outcome State Fault Refusal := onXform xstep58 s
/-- STEP 59 (R359). -/
def execStep59 (s : State) : Host.Outcome State Fault Refusal := onXform xstep59 s
/-- STEP 60 (R360). -/
def execStep60 (s : State) : Host.Outcome State Fault Refusal := onXform xstep60 s
/-- STEP 61 (R361). -/
def execStep61 (s : State) : Host.Outcome State Fault Refusal := onXform xstep61 s
/-- STEP 62 (R362). -/
def execStep62 (s : State) : Host.Outcome State Fault Refusal := onXform xstep62 s
/-- STEP 63 (R363). -/
def execStep63 (s : State) : Host.Outcome State Fault Refusal := onXform xstep63 s

end Sys2Proof.Machine
end

