-- ==== Sys2Proof/Machine/Finalizer.lean ====
section
/-! DEFINITION. The Finalizer (R170 to R178): padding, the length field, the final transform
pass and the digest. It is the function SUM calls on its duplicate, and a pure function of
three values (R178). -/

namespace Sys2Proof.Machine

/-- `z = (55 - NX) mod 64` with the remainder in 0 .. 63 (R172): 119 is 55 plus 64, so that the
difference of naturals is exact for every remainder of NX. -/
def zeroCount (nx : Nat) : Nat := (119 - nx % 64) % 64

/-- The padded buffer `P` (R88, R171, R172). -/
def padded (buf : List Byte) (len : DWord) : List Byte :=
  buf ++ [Config.padFirst] ++ rep Config.padFill (zeroCount buf.length) ++ le64 (bitLen len)

/-- `Finalize(H', BUF', LEN')` (R176). -/
def finalize (h : Words4) (buf : List Byte) (len : DWord) : List Byte :=
  let p := padded buf len
  digestBytes (absorb (p.length / Config.blockSize) h p).1

end Sys2Proof.Machine
end

