-- ==== Sys2Proof/Machine/DigestMachine.lean ====
section
/-! DEFINITION. The Digest State Machine: NEW, RESET, WRITE, SUM, BLOCKSIZE, DIGESTSIZE (R150 to
R155). Each command is one atomic step (R10, R59) and none of them can fail (R224). -/

namespace Sys2Proof.Machine

/-- NEW (R150): the instance in the reset state; on an instance that exists already, the effect
of RESET. -/
def execNew (s : State) : Host.Outcome State Fault Refusal :=
  .next (respondOk .none (setInstance Instance.reset s))

/-- RESET (R151): pending bytes are discarded without being transformed. -/
def execReset (s : State) : Host.Outcome State Fault Refusal :=
  .next (respondOk .none (setInstance Instance.reset s))

/-- The instance after `WRITE p` (R152): the counter grows by the length of the operand, the
complete blocks of `T = BUF ++ p` are transformed in order, the remainder is kept. -/
def writeInstance (p : List Byte) (m : Instance) : Instance :=
  let t := m.buf ++ p
  let r := absorb (t.length / Config.blockSize) m.h t
  { h := r.1, buf := r.2, len := addLen m.len p.length }

/-- Whether `WRITE p` completes a block, so that the transform runs (R37, R152). -/
def writeTransforms (p : List Byte) (m : Instance) : Bool :=
  decide (Config.blockSize ≤ (m.buf ++ p).length)

/-- WRITE p (R152). Where a block was transformed the transform's registers have been used, and
hold no value afterwards (R23, R37). -/
def execWrite (p : List Byte) (s : State) : Host.Outcome State Fault Refusal :=
  let s1 := setInstance (writeInstance p s.inst) s
  .next (respondOk .none (if writeTransforms p s.inst then dropXform s1 else s1))

/-- SUM prefix (R153): the Finalizer runs on the duplicate, which is gone afterwards (R34); the
instance is not touched (R178). -/
def execSum (pre : List Byte) (s : State) : Host.Outcome State Fault Refusal :=
  let s1 := takeDuplicate s
  let dg := finalize s1.dup.h s1.dup.buf s1.dup.len
  .next (respondOk (.bytes (pre ++ dg)) (dropDuplicate (dropXform s1)))

/-- BLOCKSIZE (R154). -/
def execBlockSize (s : State) : Host.Outcome State Fault Refusal :=
  .next (respondOk (.number Config.blockSize) s)

/-- DIGESTSIZE (R155). -/
def execDigestSize (s : State) : Host.Outcome State Fault Refusal :=
  .next (respondOk (.number Config.digestSize) s)

/-- The shorter path of R158: when `BUF` is empty and n >= 64, the complete blocks are taken
straight from `p` and only the remainder reaches `BUF`; when `BUF` is not empty it is first
filled to 64 bytes from the front of `p` and transformed, and the writing goes on from `p`
with an empty `BUF`. To be proved equal to `writeInstance`; nothing runs it. -/
def writeShortPath (p : List Byte) (m : Instance) : Instance :=
  let len := addLen m.len p.length
  let direct (h : Words4) (q : List Byte) : Instance :=
    let r := absorb (q.length / Config.blockSize) h q
    { h := r.1, buf := r.2, len := len }
  if m.buf = [] then
    if Config.blockSize ≤ p.length then direct m.h p else { m with buf := p, len := len }
  else if (m.buf ++ p).length < Config.blockSize then { m with buf := m.buf ++ p, len := len }
  else
    let room := Config.blockSize - m.nx
    direct (transform m.h (m.buf ++ p.take room)) (p.drop room)

end Sys2Proof.Machine
end

