-- ==== Sys2Proof/Machine/Codec.lean ====
section
/-! DEFINITION. The Checkpoint Codec: SERIALIZE, APPENDSERIALIZE, RESTORE (R190 to R203). -/

namespace Sys2Proof.Machine

/-- The buffer field: the pending bytes, then pad bytes up to 64 (R89, R193, R194). -/
def bufferField (buf : List Byte) : List Byte :=
  buf ++ rep Config.ckptPad (Config.blockSize - buf.length)

/-- The checkpoint of an instance, version 1, 92 bytes (R89, R193, R194). -/
def checkpoint (m : Instance) : List Byte :=
  Config.ckptTag ++ [Config.ckptVersion] ++ be32 m.h.a ++ be32 m.h.b ++ be32 m.h.c ++ be32 m.h.d ++
    bufferField m.buf ++ be64 m.len

/-- The instance an acceptable checkpoint stands for (R196): the fields at their offsets (R193),
the buffer trimmed to `LEN mod 64` bytes (R198). -/
def restoredInstance (ck : List Byte) : Instance :=
  let len := unbe64 ck 84
  { h := ⟨unbe32 ck 4, unbe32 ck 8, unbe32 ck 12, unbe32 ck 16⟩
    buf := slice ck 20 (pendingLen len)
    len := len }

/-- SERIALIZE (R194): the instance is only read (R203). -/
def execSerialize (s : State) : Host.Outcome State Fault Refusal :=
  .next (respondOk (.bytes (checkpoint s.inst)) s)

/-- APPENDSERIALIZE buffer (R195). -/
def execAppendSerialize (buffer : List Byte) (s : State) : Host.Outcome State Fault Refusal :=
  .next (respondOk (.bytes (buffer ++ checkpoint s.inst)) s)

/-- RESTORE s (R196): all checks come before any write, so a failing one changes nothing
(R201). -/
def execRestore (ck : List Byte) (s : State) : Host.Outcome State Fault Refusal :=
  match restoreCheck ck with
  | some c => .next (raiseInvalidState c s)
  | none => .next (respondOk .none (setInstance (restoredInstance ck) s))

end Sys2Proof.Machine
end

