-- ==== Sys2Proof/Machine/Step.lean ====
section
/-! DEFINITION. One step of the machine: a command the host has issued, whole (R10, R59), or,
while a transform invocation is in progress, one of its 64 steps (R26, R85). -/

namespace Sys2Proof.Machine

/-- One step. With nothing to run the engine simply holds its state (R237; log 3). A reserved
command word is answered `BadCommand` with the instance unchanged (R91); a submission that is no
command at all is refused by name (log 7). -/
def step (s : State) : Host.Outcome State Fault Refusal :=
  match fetch s with
  | none => .next s
  | some e =>
    match decode e with
    | .ok i =>
      match exec i (consume s) with
      | .next t => .next (afterward s.busy t)
      | .fault r => .fault r
      | .refused r => .refused r
    | .error .reservedWord => .next (badCommand (consume s))
    | .error .strayOperand => .refused (.strayOperand (s.pending.headD ⟨0, []⟩).word)
    | .error .operandTooLong => .refused (.operandTooLong (s.pending.headD ⟨0, []⟩).word)

/-- The machine about to run the instruction a number of the opcode table stands for (log 1,
log 6): a command stands first among those the host has issued, with nothing in flight; a step
is selected by the step index of an invocation in progress on the live state. -/
def State.withFetchWord (s : State) (nbits w : Nat) : State :=
  match tableEncoding nbits w with
  | .cmd c => { s with busy := none, pending := c :: s.pending }
  | .step i => { s with busy := some .live, xform := { s.xform with i := i } }

end Sys2Proof.Machine
end

