-- ==== Sys2Proof/Safety.lean ====
section
/-! DEFINITION. What the claims about the engine speak of: the invariant between commands (R36),
the acceptable checkpoint (R197), which instructions are commands, a message cut into blocks and
folded through the transform (R161), and the step of the fixed-register form read from the
schedules (R122, R124). -/

namespace Sys2Proof.Machine

/-- The invariants (I-a) and (I-b) of R36: the Pending Buffer holds fewer than 64 bytes, and as
many as the counter modulo 64. -/
abbrev Instance.Inv (m : Instance) : Prop := m.nx < 64 ∧ m.nx = m.len.toNat % 64

/-- The invariant of the machine. -/
abbrev Invariant (s : State) : Prop := s.inst.Inv

/-- An acceptable RESTORE operand: `len(s) = 92` and `s[0..4) = 6d 64 35 01` (R197). -/
abbrev Acceptable (ck : List Byte) : Prop := ck.length = 92 ∧ ck.take 4 = [0x6d, 0x64, 0x35, 0x01]

/-- The responses after a command are those before it and one more (R84). -/
abbrev Answered (s t : State) (r : Response) : Prop := t.responses = s.responses ++ [r]

/-- The response of a command that did what its rule says (R84, R221). -/
def okResponse (p : Payload) : Response := ⟨.ok, none, p⟩

/-- Whether an instruction is one of the nine commands (R80), and not a step. -/
def isCommand (i : Instr) : Bool :=
  match encode i with
  | .cmd _ => true
  | .step _ => false

/-- Block `k` of a byte sequence, `t[64k .. 64k+64)` (R152, R174). -/
def block (t : List Byte) (k : Nat) : List Byte := slice t (64 * k) 64

/-- The chaining state folded through `Transform` over the complete 64-byte blocks of a sequence,
in order (R36, R152, R161, R174). -/
def foldBlocks (h : Words4) (t : List Byte) : Words4 :=
  (List.range (t.length / 64)).foldl (fun h k => transform h (block t k)) h

/-- The suffix that pads a sequence of `n` bytes whose true count of bytes is `len`:
`0x80 ++ rep(0x00, (55 - n) mod 64) ++ le64((len * 8) mod 2^64)` (R161, R176), with the
remainder of the integers. -/
def padSuffix (n len : Nat) : List Byte :=
  0x80 :: (rep 0x00 ((55 - (n : Int)) % 64).toNat ++ le64 (BitVec.ofNat 64 (len * 8 % 2 ^ 64)))

/-- The 16 digest bytes of a state folded over a padded sequence (R161, R176). -/
def digestOf (h : Words4) (t : List Byte) (len : Nat) : List Byte :=
  let r := foldBlocks h (t ++ padSuffix t.length len)
  le32 r.a ++ le32 r.b ++ le32 r.c ++ le32 r.d

/-- The working registers after step `i` in the fixed-register form, as the table of R122 with
the schedules of R114 to R120 filled in. -/
def fixedStep (i : Nat) (x : Vector Word 16) (r : Words4) : Words4 :=
  let f := fRound (roundOf i)
  let xk := x[gIndex i] + kConst i
  match i % 4 with
  | 0 => { r with a := r.b + rotl32 (r.a + f r.b r.c r.d + xk) (sAmount i) }
  | 1 => { r with d := r.a + rotl32 (r.d + f r.a r.b r.c + xk) (sAmount i) }
  | 2 => { r with c := r.d + rotl32 (r.c + f r.d r.a r.b + xk) (sAmount i) }
  | _ => { r with b := r.c + rotl32 (r.b + f r.c r.d r.a + xk) (sAmount i) }

/-- Two states that a host cannot tell apart: the same instance, the same commands issued, the
same responses, and nothing in flight in either. They may differ in every register that "holds no
value between commands" (R23, R24, R26, R34) and in the count of free values. -/
def SameToHost (s s' : State) : Prop :=
  s.inst = s'.inst ∧ s.pending = s'.pending ∧ s.responses = s'.responses ∧
    s.busy = none ∧ s'.busy = none

end Sys2Proof.Machine
end

