-- ==== Sys2Proof/Certificates/Slice0/Obligations.lean ====
section
/-! DEFINITION. The statements about the engine, each from the numbered rules of spec/ its
docstring names. Where a rule carries the spec's own mark (a decision D<n> of 92_eei_decisions,
general knowledge), the docstring says so. -/

open Sys2Proof Sys2Proof.Machine

/-! ### Encoding -/

/-- Every command word of R82's table, and step indices written out bit by bit (R85), decode to
what they stand for. The numbers of R82 are the spec's own (D2). -/
def Obligations.WordsDecodeToWhatTheyName : Prop :=
  decode (.cmd ⟨0b00000000, []⟩) = .ok .new ∧
  decode (.cmd ⟨0b00000011, []⟩) = .ok .reset ∧
  decode (.cmd ⟨0b00000100, []⟩) = .ok .blockSize ∧
  decode (.cmd ⟨0b00000101, []⟩) = .ok .digestSize ∧
  decode (.cmd ⟨0b00000110, []⟩) = .ok .serialize ∧
  (∀ p : List Byte, p.length < 2 ^ 64 →
    decode (.cmd ⟨0b00000001, p⟩) = .ok (.write p) ∧
    decode (.cmd ⟨0b00000010, p⟩) = .ok (.sum p) ∧
    decode (.cmd ⟨0b00000111, p⟩) = .ok (.restore p) ∧
    decode (.cmd ⟨0b00001000, p⟩) = .ok (.appendSerialize p)) ∧
  decode (.step 0b000000) = .ok .step0 ∧
  decode (.step 0b001001) = .ok .step9 ∧
  decode (.step 0b010110) = .ok .step22 ∧
  decode (.step 0b100001) = .ok .step33 ∧
  decode (.step 0b111111) = .ok .step63

/-- Decoding the encoding of a well-formed instruction gives it back, with every operand (R81 to
R83, R85). -/
def Obligations.DecodeOfEncodeIsTheInstruction : Prop :=
  ∀ i : Instr, WellFormed i → decode (encode i) = .ok i

/-- Each encoding has one meaning: what decodes to an instruction is that instruction's encoding,
and the instruction is well formed (R81 to R83, R85, R94). -/
def Obligations.EncodeOfDecodeIsTheEncoding : Prop :=
  ∀ (e : Encoding) (i : Instr), decode e = .ok i → encode i = e ∧ WellFormed i

/-- A reserved command word is answered `BadCommand` with an empty payload, and nothing but the
response and the queue changes (R91, R84). That the operand a host may send with it makes no
difference is the model's reading (log 8). -/
def Obligations.ReservedWordAnswersBadCommand : Prop :=
  ∀ (s : State) (c : Submission) (rest : List Submission),
    s.busy = none → s.pending = c :: rest →
    (c.word.extractLsb' 4 4 ≠ 0 ∨ 9 ≤ (c.word.extractLsb' 0 4).toNat) →
    step s = .next
      { s with pending := rest, responses := s.responses ++ [⟨.badCommand, none, .none⟩] }

/-- A submission that is no command of R81, R82, R83 is refused by name: an operand with NEW,
RESET, BLOCKSIZE, DIGESTSIZE or SERIALIZE, and an operand of 2^64 bytes or more with the four
commands that take one. The refusal is the model's choice (log 7). -/
def Obligations.MalformedSubmissionIsRefused : Prop :=
  ∀ (s : State) (c : Submission) (rest : List Submission),
    s.busy = none → s.pending = c :: rest →
    (c.word ∈ ([0x00, 0x03, 0x04, 0x05, 0x06] : List Byte) → c.operand ≠ [] →
      step s = .refused (.strayOperand c.word)) ∧
    (c.word ∈ ([0x01, 0x02, 0x07, 0x08] : List Byte) → 2 ^ 64 ≤ c.operand.length →
      step s = .refused (.operandTooLong c.word))

/-! ### The 64 steps, eight at a time -/

/-- STEP 0 to STEP 7 (R300 to R307): what each index decodes to, and the whole next state. The
numbers and the form of a step are from general knowledge, as the rules mark them (D4). -/
def Obligations.ResultOfSteps0To7 : Prop :=
  ∀ (s : State) (A B C D : Word), s.xform.acc = ⟨A, B, C, D⟩ →
    (decode (.step 0b000000) = .ok .step0 ∧
      exec .step0 s = .next { s with xform := { s.xform with acc :=
        ⟨B + (A + f0 B C D + s.xform.x[0] + 0xd76aa478).rotateLeft 7, B, C, D⟩ } }) ∧
    (decode (.step 0b000001) = .ok .step1 ∧
      exec .step1 s = .next { s with xform := { s.xform with acc :=
        ⟨A, B, C, A + (D + f0 A B C + s.xform.x[1] + 0xe8c7b756).rotateLeft 12⟩ } }) ∧
    (decode (.step 0b000010) = .ok .step2 ∧
      exec .step2 s = .next { s with xform := { s.xform with acc :=
        ⟨A, B, D + (C + f0 D A B + s.xform.x[2] + 0x242070db).rotateLeft 17, D⟩ } }) ∧
    (decode (.step 0b000011) = .ok .step3 ∧
      exec .step3 s = .next { s with xform := { s.xform with acc :=
        ⟨A, C + (B + f0 C D A + s.xform.x[3] + 0xc1bdceee).rotateLeft 22, C, D⟩ } }) ∧
    (decode (.step 0b000100) = .ok .step4 ∧
      exec .step4 s = .next { s with xform := { s.xform with acc :=
        ⟨B + (A + f0 B C D + s.xform.x[4] + 0xf57c0faf).rotateLeft 7, B, C, D⟩ } }) ∧
    (decode (.step 0b000101) = .ok .step5 ∧
      exec .step5 s = .next { s with xform := { s.xform with acc :=
        ⟨A, B, C, A + (D + f0 A B C + s.xform.x[5] + 0x4787c62a).rotateLeft 12⟩ } }) ∧
    (decode (.step 0b000110) = .ok .step6 ∧
      exec .step6 s = .next { s with xform := { s.xform with acc :=
        ⟨A, B, D + (C + f0 D A B + s.xform.x[6] + 0xa8304613).rotateLeft 17, D⟩ } }) ∧
    (decode (.step 0b000111) = .ok .step7 ∧
      exec .step7 s = .next { s with xform := { s.xform with acc :=
        ⟨A, C + (B + f0 C D A + s.xform.x[7] + 0xfd469501).rotateLeft 22, C, D⟩ } })

/-- STEP 8 to STEP 15 (R308 to R315): what each index decodes to, and the whole next state. The
numbers and the form of a step are from general knowledge, as the rules mark them (D4). -/
def Obligations.ResultOfSteps8To15 : Prop :=
  ∀ (s : State) (A B C D : Word), s.xform.acc = ⟨A, B, C, D⟩ →
    (decode (.step 0b001000) = .ok .step8 ∧
      exec .step8 s = .next { s with xform := { s.xform with acc :=
        ⟨B + (A + f0 B C D + s.xform.x[8] + 0x698098d8).rotateLeft 7, B, C, D⟩ } }) ∧
    (decode (.step 0b001001) = .ok .step9 ∧
      exec .step9 s = .next { s with xform := { s.xform with acc :=
        ⟨A, B, C, A + (D + f0 A B C + s.xform.x[9] + 0x8b44f7af).rotateLeft 12⟩ } }) ∧
    (decode (.step 0b001010) = .ok .step10 ∧
      exec .step10 s = .next { s with xform := { s.xform with acc :=
        ⟨A, B, D + (C + f0 D A B + s.xform.x[10] + 0xffff5bb1).rotateLeft 17, D⟩ } }) ∧
    (decode (.step 0b001011) = .ok .step11 ∧
      exec .step11 s = .next { s with xform := { s.xform with acc :=
        ⟨A, C + (B + f0 C D A + s.xform.x[11] + 0x895cd7be).rotateLeft 22, C, D⟩ } }) ∧
    (decode (.step 0b001100) = .ok .step12 ∧
      exec .step12 s = .next { s with xform := { s.xform with acc :=
        ⟨B + (A + f0 B C D + s.xform.x[12] + 0x6b901122).rotateLeft 7, B, C, D⟩ } }) ∧
    (decode (.step 0b001101) = .ok .step13 ∧
      exec .step13 s = .next { s with xform := { s.xform with acc :=
        ⟨A, B, C, A + (D + f0 A B C + s.xform.x[13] + 0xfd987193).rotateLeft 12⟩ } }) ∧
    (decode (.step 0b001110) = .ok .step14 ∧
      exec .step14 s = .next { s with xform := { s.xform with acc :=
        ⟨A, B, D + (C + f0 D A B + s.xform.x[14] + 0xa679438e).rotateLeft 17, D⟩ } }) ∧
    (decode (.step 0b001111) = .ok .step15 ∧
      exec .step15 s = .next { s with xform := { s.xform with acc :=
        ⟨A, C + (B + f0 C D A + s.xform.x[15] + 0x49b40821).rotateLeft 22, C, D⟩ } })

/-- STEP 16 to STEP 23 (R316 to R323): what each index decodes to, and the whole next state. The
numbers and the form of a step are from general knowledge, as the rules mark them (D4). -/
def Obligations.ResultOfSteps16To23 : Prop :=
  ∀ (s : State) (A B C D : Word), s.xform.acc = ⟨A, B, C, D⟩ →
    (decode (.step 0b010000) = .ok .step16 ∧
      exec .step16 s = .next { s with xform := { s.xform with acc :=
        ⟨B + (A + f1 B C D + s.xform.x[1] + 0xf61e2562).rotateLeft 5, B, C, D⟩ } }) ∧
    (decode (.step 0b010001) = .ok .step17 ∧
      exec .step17 s = .next { s with xform := { s.xform with acc :=
        ⟨A, B, C, A + (D + f1 A B C + s.xform.x[6] + 0xc040b340).rotateLeft 9⟩ } }) ∧
    (decode (.step 0b010010) = .ok .step18 ∧
      exec .step18 s = .next { s with xform := { s.xform with acc :=
        ⟨A, B, D + (C + f1 D A B + s.xform.x[11] + 0x265e5a51).rotateLeft 14, D⟩ } }) ∧
    (decode (.step 0b010011) = .ok .step19 ∧
      exec .step19 s = .next { s with xform := { s.xform with acc :=
        ⟨A, C + (B + f1 C D A + s.xform.x[0] + 0xe9b6c7aa).rotateLeft 20, C, D⟩ } }) ∧
    (decode (.step 0b010100) = .ok .step20 ∧
      exec .step20 s = .next { s with xform := { s.xform with acc :=
        ⟨B + (A + f1 B C D + s.xform.x[5] + 0xd62f105d).rotateLeft 5, B, C, D⟩ } }) ∧
    (decode (.step 0b010101) = .ok .step21 ∧
      exec .step21 s = .next { s with xform := { s.xform with acc :=
        ⟨A, B, C, A + (D + f1 A B C + s.xform.x[10] + 0x02441453).rotateLeft 9⟩ } }) ∧
    (decode (.step 0b010110) = .ok .step22 ∧
      exec .step22 s = .next { s with xform := { s.xform with acc :=
        ⟨A, B, D + (C + f1 D A B + s.xform.x[15] + 0xd8a1e681).rotateLeft 14, D⟩ } }) ∧
    (decode (.step 0b010111) = .ok .step23 ∧
      exec .step23 s = .next { s with xform := { s.xform with acc :=
        ⟨A, C + (B + f1 C D A + s.xform.x[4] + 0xe7d3fbc8).rotateLeft 20, C, D⟩ } })

/-- STEP 24 to STEP 31 (R324 to R331): what each index decodes to, and the whole next state. The
numbers and the form of a step are from general knowledge, as the rules mark them (D4). -/
def Obligations.ResultOfSteps24To31 : Prop :=
  ∀ (s : State) (A B C D : Word), s.xform.acc = ⟨A, B, C, D⟩ →
    (decode (.step 0b011000) = .ok .step24 ∧
      exec .step24 s = .next { s with xform := { s.xform with acc :=
        ⟨B + (A + f1 B C D + s.xform.x[9] + 0x21e1cde6).rotateLeft 5, B, C, D⟩ } }) ∧
    (decode (.step 0b011001) = .ok .step25 ∧
      exec .step25 s = .next { s with xform := { s.xform with acc :=
        ⟨A, B, C, A + (D + f1 A B C + s.xform.x[14] + 0xc33707d6).rotateLeft 9⟩ } }) ∧
    (decode (.step 0b011010) = .ok .step26 ∧
      exec .step26 s = .next { s with xform := { s.xform with acc :=
        ⟨A, B, D + (C + f1 D A B + s.xform.x[3] + 0xf4d50d87).rotateLeft 14, D⟩ } }) ∧
    (decode (.step 0b011011) = .ok .step27 ∧
      exec .step27 s = .next { s with xform := { s.xform with acc :=
        ⟨A, C + (B + f1 C D A + s.xform.x[8] + 0x455a14ed).rotateLeft 20, C, D⟩ } }) ∧
    (decode (.step 0b011100) = .ok .step28 ∧
      exec .step28 s = .next { s with xform := { s.xform with acc :=
        ⟨B + (A + f1 B C D + s.xform.x[13] + 0xa9e3e905).rotateLeft 5, B, C, D⟩ } }) ∧
    (decode (.step 0b011101) = .ok .step29 ∧
      exec .step29 s = .next { s with xform := { s.xform with acc :=
        ⟨A, B, C, A + (D + f1 A B C + s.xform.x[2] + 0xfcefa3f8).rotateLeft 9⟩ } }) ∧
    (decode (.step 0b011110) = .ok .step30 ∧
      exec .step30 s = .next { s with xform := { s.xform with acc :=
        ⟨A, B, D + (C + f1 D A B + s.xform.x[7] + 0x676f02d9).rotateLeft 14, D⟩ } }) ∧
    (decode (.step 0b011111) = .ok .step31 ∧
      exec .step31 s = .next { s with xform := { s.xform with acc :=
        ⟨A, C + (B + f1 C D A + s.xform.x[12] + 0x8d2a4c8a).rotateLeft 20, C, D⟩ } })

/-- STEP 32 to STEP 39 (R332 to R339): what each index decodes to, and the whole next state. The
numbers and the form of a step are from general knowledge, as the rules mark them (D4). -/
def Obligations.ResultOfSteps32To39 : Prop :=
  ∀ (s : State) (A B C D : Word), s.xform.acc = ⟨A, B, C, D⟩ →
    (decode (.step 0b100000) = .ok .step32 ∧
      exec .step32 s = .next { s with xform := { s.xform with acc :=
        ⟨B + (A + f2 B C D + s.xform.x[5] + 0xfffa3942).rotateLeft 4, B, C, D⟩ } }) ∧
    (decode (.step 0b100001) = .ok .step33 ∧
      exec .step33 s = .next { s with xform := { s.xform with acc :=
        ⟨A, B, C, A + (D + f2 A B C + s.xform.x[8] + 0x8771f681).rotateLeft 11⟩ } }) ∧
    (decode (.step 0b100010) = .ok .step34 ∧
      exec .step34 s = .next { s with xform := { s.xform with acc :=
        ⟨A, B, D + (C + f2 D A B + s.xform.x[11] + 0x6d9d6122).rotateLeft 16, D⟩ } }) ∧
    (decode (.step 0b100011) = .ok .step35 ∧
      exec .step35 s = .next { s with xform := { s.xform with acc :=
        ⟨A, C + (B + f2 C D A + s.xform.x[14] + 0xfde5380c).rotateLeft 23, C, D⟩ } }) ∧
    (decode (.step 0b100100) = .ok .step36 ∧
      exec .step36 s = .next { s with xform := { s.xform with acc :=
        ⟨B + (A + f2 B C D + s.xform.x[1] + 0xa4beea44).rotateLeft 4, B, C, D⟩ } }) ∧
    (decode (.step 0b100101) = .ok .step37 ∧
      exec .step37 s = .next { s with xform := { s.xform with acc :=
        ⟨A, B, C, A + (D + f2 A B C + s.xform.x[4] + 0x4bdecfa9).rotateLeft 11⟩ } }) ∧
    (decode (.step 0b100110) = .ok .step38 ∧
      exec .step38 s = .next { s with xform := { s.xform with acc :=
        ⟨A, B, D + (C + f2 D A B + s.xform.x[7] + 0xf6bb4b60).rotateLeft 16, D⟩ } }) ∧
    (decode (.step 0b100111) = .ok .step39 ∧
      exec .step39 s = .next { s with xform := { s.xform with acc :=
        ⟨A, C + (B + f2 C D A + s.xform.x[10] + 0xbebfbc70).rotateLeft 23, C, D⟩ } })

/-- STEP 40 to STEP 47 (R340 to R347): what each index decodes to, and the whole next state. The
numbers and the form of a step are from general knowledge, as the rules mark them (D4). -/
def Obligations.ResultOfSteps40To47 : Prop :=
  ∀ (s : State) (A B C D : Word), s.xform.acc = ⟨A, B, C, D⟩ →
    (decode (.step 0b101000) = .ok .step40 ∧
      exec .step40 s = .next { s with xform := { s.xform with acc :=
        ⟨B + (A + f2 B C D + s.xform.x[13] + 0x289b7ec6).rotateLeft 4, B, C, D⟩ } }) ∧
    (decode (.step 0b101001) = .ok .step41 ∧
      exec .step41 s = .next { s with xform := { s.xform with acc :=
        ⟨A, B, C, A + (D + f2 A B C + s.xform.x[0] + 0xeaa127fa).rotateLeft 11⟩ } }) ∧
    (decode (.step 0b101010) = .ok .step42 ∧
      exec .step42 s = .next { s with xform := { s.xform with acc :=
        ⟨A, B, D + (C + f2 D A B + s.xform.x[3] + 0xd4ef3085).rotateLeft 16, D⟩ } }) ∧
    (decode (.step 0b101011) = .ok .step43 ∧
      exec .step43 s = .next { s with xform := { s.xform with acc :=
        ⟨A, C + (B + f2 C D A + s.xform.x[6] + 0x04881d05).rotateLeft 23, C, D⟩ } }) ∧
    (decode (.step 0b101100) = .ok .step44 ∧
      exec .step44 s = .next { s with xform := { s.xform with acc :=
        ⟨B + (A + f2 B C D + s.xform.x[9] + 0xd9d4d039).rotateLeft 4, B, C, D⟩ } }) ∧
    (decode (.step 0b101101) = .ok .step45 ∧
      exec .step45 s = .next { s with xform := { s.xform with acc :=
        ⟨A, B, C, A + (D + f2 A B C + s.xform.x[12] + 0xe6db99e5).rotateLeft 11⟩ } }) ∧
    (decode (.step 0b101110) = .ok .step46 ∧
      exec .step46 s = .next { s with xform := { s.xform with acc :=
        ⟨A, B, D + (C + f2 D A B + s.xform.x[15] + 0x1fa27cf8).rotateLeft 16, D⟩ } }) ∧
    (decode (.step 0b101111) = .ok .step47 ∧
      exec .step47 s = .next { s with xform := { s.xform with acc :=
        ⟨A, C + (B + f2 C D A + s.xform.x[2] + 0xc4ac5665).rotateLeft 23, C, D⟩ } })

/-- STEP 48 to STEP 55 (R348 to R355): what each index decodes to, and the whole next state. The
numbers and the form of a step are from general knowledge, as the rules mark them (D4). -/
def Obligations.ResultOfSteps48To55 : Prop :=
  ∀ (s : State) (A B C D : Word), s.xform.acc = ⟨A, B, C, D⟩ →
    (decode (.step 0b110000) = .ok .step48 ∧
      exec .step48 s = .next { s with xform := { s.xform with acc :=
        ⟨B + (A + f3 B C D + s.xform.x[0] + 0xf4292244).rotateLeft 6, B, C, D⟩ } }) ∧
    (decode (.step 0b110001) = .ok .step49 ∧
      exec .step49 s = .next { s with xform := { s.xform with acc :=
        ⟨A, B, C, A + (D + f3 A B C + s.xform.x[7] + 0x432aff97).rotateLeft 10⟩ } }) ∧
    (decode (.step 0b110010) = .ok .step50 ∧
      exec .step50 s = .next { s with xform := { s.xform with acc :=
        ⟨A, B, D + (C + f3 D A B + s.xform.x[14] + 0xab9423a7).rotateLeft 15, D⟩ } }) ∧
    (decode (.step 0b110011) = .ok .step51 ∧
      exec .step51 s = .next { s with xform := { s.xform with acc :=
        ⟨A, C + (B + f3 C D A + s.xform.x[5] + 0xfc93a039).rotateLeft 21, C, D⟩ } }) ∧
    (decode (.step 0b110100) = .ok .step52 ∧
      exec .step52 s = .next { s with xform := { s.xform with acc :=
        ⟨B + (A + f3 B C D + s.xform.x[12] + 0x655b59c3).rotateLeft 6, B, C, D⟩ } }) ∧
    (decode (.step 0b110101) = .ok .step53 ∧
      exec .step53 s = .next { s with xform := { s.xform with acc :=
        ⟨A, B, C, A + (D + f3 A B C + s.xform.x[3] + 0x8f0ccc92).rotateLeft 10⟩ } }) ∧
    (decode (.step 0b110110) = .ok .step54 ∧
      exec .step54 s = .next { s with xform := { s.xform with acc :=
        ⟨A, B, D + (C + f3 D A B + s.xform.x[10] + 0xffeff47d).rotateLeft 15, D⟩ } }) ∧
    (decode (.step 0b110111) = .ok .step55 ∧
      exec .step55 s = .next { s with xform := { s.xform with acc :=
        ⟨A, C + (B + f3 C D A + s.xform.x[1] + 0x85845dd1).rotateLeft 21, C, D⟩ } })

/-- STEP 56 to STEP 63 (R356 to R363): what each index decodes to, and the whole next state. The
numbers and the form of a step are from general knowledge, as the rules mark them (D4). -/
def Obligations.ResultOfSteps56To63 : Prop :=
  ∀ (s : State) (A B C D : Word), s.xform.acc = ⟨A, B, C, D⟩ →
    (decode (.step 0b111000) = .ok .step56 ∧
      exec .step56 s = .next { s with xform := { s.xform with acc :=
        ⟨B + (A + f3 B C D + s.xform.x[8] + 0x6fa87e4f).rotateLeft 6, B, C, D⟩ } }) ∧
    (decode (.step 0b111001) = .ok .step57 ∧
      exec .step57 s = .next { s with xform := { s.xform with acc :=
        ⟨A, B, C, A + (D + f3 A B C + s.xform.x[15] + 0xfe2ce6e0).rotateLeft 10⟩ } }) ∧
    (decode (.step 0b111010) = .ok .step58 ∧
      exec .step58 s = .next { s with xform := { s.xform with acc :=
        ⟨A, B, D + (C + f3 D A B + s.xform.x[6] + 0xa3014314).rotateLeft 15, D⟩ } }) ∧
    (decode (.step 0b111011) = .ok .step59 ∧
      exec .step59 s = .next { s with xform := { s.xform with acc :=
        ⟨A, C + (B + f3 C D A + s.xform.x[13] + 0x4e0811a1).rotateLeft 21, C, D⟩ } }) ∧
    (decode (.step 0b111100) = .ok .step60 ∧
      exec .step60 s = .next { s with xform := { s.xform with acc :=
        ⟨B + (A + f3 B C D + s.xform.x[4] + 0xf7537e82).rotateLeft 6, B, C, D⟩ } }) ∧
    (decode (.step 0b111101) = .ok .step61 ∧
      exec .step61 s = .next { s with xform := { s.xform with acc :=
        ⟨A, B, C, A + (D + f3 A B C + s.xform.x[11] + 0xbd3af235).rotateLeft 10⟩ } }) ∧
    (decode (.step 0b111110) = .ok .step62 ∧
      exec .step62 s = .next { s with xform := { s.xform with acc :=
        ⟨A, B, D + (C + f3 D A B + s.xform.x[2] + 0x2ad7d2bb).rotateLeft 15, D⟩ } }) ∧
    (decode (.step 0b111111) = .ok .step63 ∧
      exec .step63 s = .next { s with xform := { s.xform with acc :=
        ⟨A, C + (B + f3 C D A + s.xform.x[9] + 0xeb86d391).rotateLeft 21, C, D⟩ } })

/-- Every step by its index: the meaning of the instruction that index `i` decodes to is the row
`i mod 4` of the table of R122 with `f_r`, `G[i]`, `K[i]`, `S[i]` of the schedules (R86, R114 to
R120, R124). -/
def Obligations.StepOfIndexFollowsTheSchedules : Prop :=
  ∀ (i : BitVec 6) (s : State),
    exec (decodeStep i) s = .next
      { s with xform := { s.xform with acc := fixedStep i.toNat s.xform.x s.xform.acc } }

/-- The frame of a step: exactly one of A, D, C, B may change, by i mod 4 (R122), and the message
words (R111), the step index, the instance with every byte of its buffer, the duplicate, the
queue, the responses and the rest are as before (R110). -/
def Obligations.StepWritesOneRegisterOnly : Prop :=
  ∀ (i : BitVec 6) (s t : State), exec (decodeStep i) s = .next t →
    (i.toNat % 4 ≠ 0 → t.xform.acc.a = s.xform.acc.a) ∧
    (i.toNat % 4 ≠ 1 → t.xform.acc.d = s.xform.acc.d) ∧
    (i.toNat % 4 ≠ 2 → t.xform.acc.c = s.xform.acc.c) ∧
    (i.toNat % 4 ≠ 3 → t.xform.acc.b = s.xform.acc.b) ∧
    t.xform.x = s.xform.x ∧ t.xform.i = s.xform.i ∧
    t.inst.h = s.inst.h ∧ t.inst.len = s.inst.len ∧
    (∀ j, t.inst.byteAt j = s.inst.byteAt j) ∧
    t.dup = s.dup ∧ t.busy = s.busy ∧ t.pending = s.pending ∧
    t.responses = s.responses ∧ t.freeCount = s.freeCount

/-! ### The functions and schedules of the transform -/

/-- The four bitwise functions, bit by bit, with the equivalent forms and corner cases the rules
give (R114 to R117; the formulas are from general knowledge, D4). -/
def Obligations.BitFunctionsBitByBit : Prop :=
  (∀ (x y z : Word) (j : Nat), j < 32 →
    (f0 x y z).getLsbD j = (if x.getLsbD j then y.getLsbD j else z.getLsbD j) ∧
    (f1 x y z).getLsbD j = (if z.getLsbD j then x.getLsbD j else y.getLsbD j) ∧
    (f2 x y z).getLsbD j = (x.getLsbD j != (y.getLsbD j != z.getLsbD j)) ∧
    (f3 x y z).getLsbD j = (y.getLsbD j != (x.getLsbD j || !z.getLsbD j))) ∧
  (∀ x y z : Word,
    f0 x y z = (x &&& y ||| ~~~x &&& z) ∧ f0 x y z = z ^^^ (x &&& (y ^^^ z)) ∧
    f0 0 y z = z ∧ f0 0xffffffff y z = y ∧ f0 x y y = y ∧
    f1 x y z = (x &&& z ||| y &&& ~~~z) ∧ f1 x y z = f0 z x y ∧
    f1 x y 0 = y ∧ f1 x y 0xffffffff = x ∧
    f2 x y z = x ^^^ y ^^^ z ∧ f2 x x z = z ∧ f2 0 0 0 = 0 ∧
    f2 0xffffffff 0xffffffff 0xffffffff = 0xffffffff ∧
    f3 x y z = y ^^^ (x ||| ~~~z) ∧ f3 0 0 0 = 0xffffffff ∧ f3 x y 0 = ~~~y ∧
    f3 0xffffffff y z = ~~~y ∧ f3 0 y 0xffffffff = y)

/-- `rotl32` moves bit j to bit (j + s) mod 32 and loses no bit (R14, R128), for every amount the
rule defines it on. -/
def Obligations.RotationMovesBitsAndLosesNone : Prop :=
  ∀ (x : Word) (s : Nat), 0 < s → s < 32 →
    (∀ j, j < 32 → (rotl32 x s).getLsbD ((j + s) % 32) = x.getLsbD j) ∧
    rotl32 (rotl32 x s) (32 - s) = x

/-- The message words of a block (R111): `X[j]` is the sum of its four bytes weighted by powers
of 2^8, low byte first; and no step changes a message word. -/
def Obligations.MessageWordsAreLittleEndian : Prop :=
  (∀ (h : Words4) (blk : List Byte), blk.length = 64 → ∀ j : Fin 16,
    (loadXform h blk).x[j].toNat =
      (byteAt blk (4 * j)).toNat + 2 ^ 8 * (byteAt blk (4 * j + 1)).toNat +
        2 ^ 16 * (byteAt blk (4 * j + 2)).toNat + 2 ^ 24 * (byteAt blk (4 * j + 3)).toNat) ∧
  (∀ (i : BitVec 6) (s t : State), exec (decodeStep i) s = .next t → t.xform.x = s.xform.x)

/-- Each round's schedule of message words is a permutation of 0 .. 15 and given by its formula
(R118); every rotation amount is the one in its round's row, is in 4 .. 23 and repeats with period 4
in its round (R119). The numbers are from general knowledge, as the rules mark them (D4). -/
def Obligations.SchedulesAreAsTheirRulesSay : Prop :=
  (∀ p : Fin 16,
    (gIndex p).val = p ∧ (gIndex (16 + p)).val = (5 * (16 + p) + 1) % 16 ∧
    (gIndex (32 + p)).val = (3 * (32 + p) + 5) % 16 ∧ (gIndex (48 + p)).val = (7 * (48 + p)) % 16) ∧
  (∀ (r : Fin 4) (j : Fin 16), ∃ p : Fin 16, gIndex (16 * r + p) = j) ∧
  (∀ j : Fin 4,
    sAmount j = ([7, 12, 17, 22] : List Nat)[j] ∧ sAmount (16 + j) = ([5, 9, 14, 20] : List Nat)[j] ∧
    sAmount (32 + j) = ([4, 11, 16, 23] : List Nat)[j] ∧
    sAmount (48 + j) = ([6, 10, 15, 21] : List Nat)[j]) ∧
  (∀ i : Fin 64, 4 ≤ sAmount i ∧ sAmount i ≤ 23) ∧
  (∀ (r : Fin 4) (p : Fin 12), sAmount (16 * r + p + 4) = sAmount (16 * r + p))

/-- The beginning and the end of an invocation: the accumulators are loaded from the chaining
state (R112; from general knowledge, as the rule marks it) and the step index is 0 (R26, R125); at
the end each accumulator is added modulo 2^32 to the corresponding pre-block word (R123). That the
beginning and the end of an invocation are states of the machine, with `busy` set in between, is
the model's own view (log 6). -/
def Obligations.AccumulatorsLoadedAndAdded : Prop :=
  ∀ (c : Caller) (blk : List Byte) (s : State),
    ((beginTransform c blk s).xform.acc = chaining c s ∧ (beginTransform c blk s).xform.i = 0 ∧
      chaining c (beginTransform c blk s) = chaining c s) ∧
    (let h := chaining c s
     let r := s.xform.acc
     chaining c (finishTransform c s) = ⟨h.a + r.a, h.b + r.b, h.c + r.c, h.d + r.d⟩ ∧
      (finishTransform c s).busy = none)

/-- The transform built from the 64 fixed-register steps is the loop of R125 in the rotating-role
form of R121, for every state and every block (R122). -/
def Obligations.FixedAndRotatingFormsAgree : Prop :=
  ∀ (h : Words4) (blk : List Byte), blk.length = 64 → transform h blk = rotatingTransform h blk

/-- What WRITE and SUM compute in one step is what the 64 STEP instructions compute one by one:
an invocation begun on a block ends after 64 steps of the machine with `Transform` of the
chaining state in its place, nothing in flight, and the buffer, the counter, the other chaining
state, the queue and the responses as they were (R26, R59, R125). That the machine can be in the
middle of an invocation is the model's own view (log 6). -/
def Obligations.SixtyFourStepsComputeTheTransform : Prop :=
  ∀ (c : Caller) (s : State) (blk : List Byte), s.busy = none → blk.length = 64 →
    ∃ t, Host.Core.run Sys2Proof.core 64 (beginTransform c blk s) = .next t ∧
      chaining c t = transform (chaining c s) blk ∧ t.busy = none ∧
      (c = .dup → t.inst = s.inst) ∧ (c = .live → t.dup = s.dup) ∧
      t.inst.buf = s.inst.buf ∧ t.inst.len = s.inst.len ∧
      t.dup.buf = s.dup.buf ∧ t.dup.len = s.dup.len ∧
      t.pending = s.pending ∧ t.responses = s.responses

/-- Inside an invocation the step index counts 0, 1, 2, .. with no branch and no skip, the message
words stay, and neither the instance nor the duplicate changes before the end: `H` changes "in one
piece" (R26, R59, R113, R178). That the machine can be in the middle of an invocation is the model's
own view (log 6). -/
def Obligations.ChainingStateChangesInOnePiece : Prop :=
  ∀ (c : Caller) (s : State) (blk : List Byte) (n : Nat), blk.length = 64 → n < 64 →
    ∃ t, Host.Core.run Sys2Proof.core n (beginTransform c blk s) = .next t ∧
      t.busy = some c ∧ t.xform.i.toNat = n ∧ t.xform.x = msgWords blk ∧
      t.inst = s.inst ∧ t.dup = s.dup ∧ t.pending = s.pending ∧ t.responses = s.responses

/-! ### The Digest State Machine -/

/-- NEW and RESET (R150, R151): the whole next state, whatever the instance held. The four
constants are from general knowledge (D3). -/
def Obligations.NewAndResetGiveTheResetInstance : Prop :=
  ∀ s : State,
    (decode (.cmd ⟨0x00, []⟩) = .ok .new ∧
      exec .new s = .next
        { s with
          inst := ⟨⟨0x67452301, 0xefcdab89, 0x98badcfe, 0x10325476⟩, [], 0⟩
          responses := s.responses ++ [⟨.ok, none, .none⟩] }) ∧
    (decode (.cmd ⟨0x03, []⟩) = .ok .reset ∧
      exec .reset s = .next
        { s with
          inst := ⟨⟨0x67452301, 0xefcdab89, 0x98badcfe, 0x10325476⟩, [], 0⟩
          responses := s.responses ++ [⟨.ok, none, .none⟩] })

/-- The reset state (R38): after power-on, after NEW and after RESET. That power-on equals NEW
is the spec's choice (D13). -/
def Obligations.PowerOnNewAndResetAgree : Prop :=
  State.reset.inst.h = ⟨0x67452301, 0xefcdab89, 0x98badcfe, 0x10325476⟩ ∧
  State.reset.inst.buf = [] ∧ State.reset.inst.nx = 0 ∧ State.reset.inst.len = 0 ∧
  ∀ s : State, ∃ t u, exec .new s = .next t ∧ exec .reset s = .next u ∧
    t.inst = State.reset.inst ∧ u.inst = State.reset.inst

/-- WRITE p (R152): the counter, the blocks transformed in order, the remainder and the response;
and the frame: the duplicate, the queue and what is in flight are as before, and where no block
is completed so are the registers of the transform (R37). -/
def Obligations.ResultOfWrite : Prop :=
  ∀ (p : List Byte) (s : State),
    (p.length < 2 ^ 64 → decode (.cmd ⟨0x01, p⟩) = .ok (.write p)) ∧
    ∃ t, exec (.write p) s = .next t ∧
      t.inst.len.toNat = (s.inst.len.toNat + p.length) % 2 ^ 64 ∧
      (let T := s.inst.buf ++ p
       let q := T.length / 64
       t.inst.h = (List.range q).foldl (fun h k => transform h (slice T (64 * k) 64)) s.inst.h ∧
       t.inst.buf = T.drop (64 * q) ∧ t.inst.nx = T.length - 64 * q ∧
       (q = 0 → t.xform = s.xform ∧ t.freeCount = s.freeCount)) ∧
      Answered s t ⟨.ok, none, .none⟩ ∧
      t.dup = s.dup ∧ t.busy = s.busy ∧ t.pending = s.pending

/-- SUM prefix (R153): the response is the prefix and the digest the Finalizer gives on a copy of
the instance; the instance, with every byte of its buffer, is as before. -/
def Obligations.ResultOfSum : Prop :=
  ∀ (pre : List Byte) (s : State),
    (pre.length < 2 ^ 64 → decode (.cmd ⟨0x02, pre⟩) = .ok (.sum pre)) ∧
    ∃ t, exec (.sum pre) s = .next t ∧
      (let dg := finalize s.inst.h s.inst.buf s.inst.len
       dg.length = 16 ∧ Answered s t ⟨.ok, none, .bytes (pre ++ dg)⟩) ∧
      t.inst = s.inst ∧ (∀ j, t.inst.byteAt j = s.inst.byteAt j) ∧
      t.busy = s.busy ∧ t.pending = s.pending

/-- BLOCKSIZE and DIGESTSIZE (R154, R155): the whole next state, in every state. -/
def Obligations.ResultOfBlockSizeAndDigestSize : Prop :=
  ∀ s : State,
    (decode (.cmd ⟨0x04, []⟩) = .ok .blockSize ∧
      exec .blockSize s = .next
        { s with responses := s.responses ++ [⟨.ok, none, .number 64⟩] }) ∧
    (decode (.cmd ⟨0x05, []⟩) = .ok .digestSize ∧
      exec .digestSize s = .next
        { s with responses := s.responses ++ [⟨.ok, none, .number 16⟩] })

/-- Split-invariance (R156): in every state, writing p and then q leaves the instance that writing
p ++ q leaves. -/
def Obligations.WritingInTwoPiecesIsWritingOnce : Prop :=
  ∀ (p q : List Byte) (s : State),
    ∃ t u v, exec (.write p) s = .next t ∧ exec (.write q) t = .next u ∧
      exec (.write (p ++ q)) s = .next v ∧ u.inst = v.inst

/-- Zero-length WRITE (R159): in a state with fewer than 64 bytes pending nothing changes but the
response that is given. -/
def Obligations.EmptyWriteChangesNothing : Prop :=
  ∀ s : State, s.inst.nx < 64 →
    exec (.write []) s = .next { s with responses := s.responses ++ [⟨.ok, none, .none⟩] }

/-- Idempotent extraction (R157): two SUMs in a row respond the same, and a SUM before a WRITE
makes no difference to the SUM after it. -/
def Obligations.SumDoesNotDisturb : Prop :=
  ∀ (pre p : List Byte) (s : State),
    ∃ t r, exec (.sum pre) s = .next t ∧ Answered s t r ∧
      (∃ u, exec (.sum pre) t = .next u ∧ Answered t u r) ∧
      (∃ w y w' y' r', exec (.write p) t = .next w ∧ exec (.sum pre) w = .next y ∧ Answered w y r' ∧
        exec (.write p) s = .next w' ∧ exec (.sum pre) w' = .next y' ∧ Answered w' y' r')

/-- The shorter path of R158 gives the instance that the rule of WRITE gives, wherever fewer than
64 bytes are pending. -/
def Obligations.ShorterPathOfWriteAgrees : Prop :=
  ∀ (p : List Byte) (m : Instance), m.nx < 64 → writeShortPath p m = writeInstance p m

/-- The digest of a message (R161): for a message of fewer than 2^61 bytes the commands NEW,
WRITE M, SUM answer OK, OK and the 16 bytes of `INIT` folded over the padded message, whatever
the instance held before. -/
def Obligations.DigestOfAMessage : Prop :=
  ∀ (M : List Byte) (s : State), M.length < 2 ^ 61 → s.busy = none →
    s.pending = [⟨0x00, []⟩, ⟨0x01, M⟩, ⟨0x02, []⟩] →
    ∃ t, Host.Core.run Sys2Proof.core 3 s = .next t ∧
      t.responses = s.responses ++
        [okResponse .none, okResponse .none,
         okResponse (.bytes (digestOf ⟨0x67452301, 0xefcdab89, 0x98badcfe, 0x10325476⟩ M M.length))]

/-- (I-c) of R36: after NEW and any sequence of WRITEs of fewer than 2^64 bytes in all, the
counter is the length of the message written, the buffer its last bytes, and `H` is `INIT` folded
over its complete blocks. -/
def Obligations.InstanceStandsForTheMessageWritten : Prop :=
  ∀ (ps : List (List Byte)) (s : State), ps.flatten.length < 2 ^ 64 → s.busy = none →
    s.pending = ⟨0x00, []⟩ :: ps.map (fun p => ⟨0x01, p⟩) →
    ∃ t, Host.Core.run Sys2Proof.core (ps.length + 1) s = .next t ∧
      (let M := ps.flatten
       t.inst.len.toNat = M.length ∧ t.inst.buf = M.drop (M.length - M.length % 64) ∧
       t.inst.h = foldBlocks ⟨0x67452301, 0xefcdab89, 0x98badcfe, 0x10325476⟩ M)

/-! ### The Finalizer -/

/-- Padding (R171): the pending bytes, one 0x80 byte, zeros, and the length field in the last
eight bytes; the padded buffer is 64 bytes for NX <= 55 and 128 for NX >= 56 (R172), and the
zeros are the fewest that do it. -/
def Obligations.PaddedBufferShape : Prop :=
  ∀ (buf : List Byte) (len : DWord), buf.length ≤ 63 →
    (padded buf len).length = (if buf.length ≤ 55 then 64 else 128) ∧
    (padded buf len).take buf.length = buf ∧
    (padded buf len)[buf.length]? = some 0x80 ∧
    (∀ j, buf.length < j → j + 8 < (padded buf len).length → (padded buf len)[j]? = some 0x00) ∧
    (padded buf len).drop ((padded buf len).length - 8) = le64 (bitLen len) ∧
    (∀ z, (buf.length + 1 + z) % 64 = 56 → zeroCount buf.length ≤ z) ∧
    (buf.length + 1 + zeroCount buf.length) % 64 = 56

/-- The length field (R173, R54): the byte count times 8 modulo 2^64, byte j of the field being
bits 8j+7 to 8j. That the product keeps its low 64 bits is the spec's choice (D9). -/
def Obligations.LengthFieldIsTheBitCount : Prop :=
  ∀ len : DWord,
    (bitLen len).toNat = len.toNat * 8 % 2 ^ 64 ∧
    (len.toNat < 2 ^ 61 → (bitLen len).toNat = len.toNat * 8) ∧
    (le64 (bitLen len)).length = 8 ∧
    ∀ j : Nat, j < 8 →
      (byteAt (le64 (bitLen len)) j).toNat = (len.toNat * 8 % 2 ^ 64) / 2 ^ (8 * j) % 2 ^ 8

/-- The whole Finalizer (R176): the state folded over the padded buffer, as sixteen bytes. -/
def Obligations.FinalizeIsPadFoldExtract : Prop :=
  ∀ (h : Words4) (buf : List Byte) (len : DWord), buf.length ≤ 63 →
    finalize h buf len = digestOf h buf len.toNat

/-- Extraction (R175): sixteen bytes, word A first, each word low byte first. -/
def Obligations.DigestIsLittleEndianWordAFirst : Prop :=
  ∀ h : Words4,
    (digestBytes h).length = 16 ∧
    ∀ j : Nat, j < 4 →
      (byteAt (digestBytes h) j).toNat = h.a.toNat / 2 ^ (8 * j) % 2 ^ 8 ∧
      (byteAt (digestBytes h) (4 + j)).toNat = h.b.toNat / 2 ^ (8 * j) % 2 ^ 8 ∧
      (byteAt (digestBytes h) (8 + j)).toNat = h.c.toNat / 2 ^ (8 * j) % 2 ^ 8 ∧
      (byteAt (digestBytes h) (12 + j)).toNat = h.d.toNat / 2 ^ (8 * j) % 2 ^ 8

/-! ### The Checkpoint Codec -/

/-- SERIALIZE (R194): the whole next state; the fields and the pad value are the spec's choice
(D5, D6). -/
def Obligations.ResultOfSerialize : Prop :=
  ∀ s : State,
    decode (.cmd ⟨0x06, []⟩) = .ok .serialize ∧
    (s.inst.nx < 64 → (checkpoint s.inst).length = 92) ∧
    exec .serialize s = .next
      { s with
        responses := s.responses ++
          [⟨.ok, none, .bytes
            ([0x6d, 0x64, 0x35] ++ [0x01] ++ be32 s.inst.h.a ++ be32 s.inst.h.b ++
              be32 s.inst.h.c ++ be32 s.inst.h.d ++ s.inst.buf ++
              List.replicate (64 - s.inst.nx) 0x00 ++ be64 s.inst.len)⟩] }

/-- The layout of version 1 (R89): every field at its offset, the words and the counter high byte
first. The layout is the spec's choice (D5, D6). -/
def Obligations.CheckpointLayout : Prop :=
  ∀ m : Instance, m.nx < 64 →
    slice (checkpoint m) 0 3 = [0x6d, 0x64, 0x35] ∧
    slice (checkpoint m) 3 1 = [0x01] ∧
    slice (checkpoint m) 4 4 = be32 m.h.a ∧ slice (checkpoint m) 8 4 = be32 m.h.b ∧
    slice (checkpoint m) 12 4 = be32 m.h.c ∧ slice (checkpoint m) 16 4 = be32 m.h.d ∧
    slice (checkpoint m) 20 64 = m.buf ++ List.replicate (64 - m.nx) 0x00 ∧
    slice (checkpoint m) 84 8 = be64 m.len ∧ (checkpoint m).length = 92 ∧
    (∀ (w : Word) (j : Nat), j < 4 → (byteAt (be32 w) j).toNat = w.toNat / 2 ^ (8 * (3 - j)) % 2 ^ 8) ∧
    (∀ (v : DWord) (j : Nat), j < 8 → (byteAt (be64 v) j).toNat = v.toNat / 2 ^ (8 * (7 - j)) % 2 ^ 8)

/-- APPENDSERIALIZE (R195): the operand followed by exactly the bytes SERIALIZE responds in the
same state, and the instance unchanged. -/
def Obligations.ResultOfAppendSerialize : Prop :=
  ∀ (buffer : List Byte) (s : State),
    (buffer.length < 2 ^ 64 → decode (.cmd ⟨0x08, buffer⟩) = .ok (.appendSerialize buffer)) ∧
    ∃ ck,
      exec .serialize s = .next { s with responses := s.responses ++ [⟨.ok, none, .bytes ck⟩] } ∧
      exec (.appendSerialize buffer) s = .next
        { s with responses := s.responses ++ [⟨.ok, none, .bytes (buffer ++ ck)⟩] }

/-- RESTORE s (R196, R197): the three checks in order, each failing one ending the command with
its cause and nothing changed; otherwise the whole next state, decoded from the fields. The order
of the checks and the causes are the spec's choice (D7). -/
def Obligations.ResultOfRestore : Prop :=
  ∀ (ck : List Byte) (s : State),
    (ck.length < 2 ^ 64 → decode (.cmd ⟨0x07, ck⟩) = .ok (.restore ck)) ∧
    exec (.restore ck) s = .next (
      if ck.length < 3 ∨ slice ck 0 3 ≠ [0x6d, 0x64, 0x35] then
        { s with responses := s.responses ++ [⟨.invalidState, some .badTag, .none⟩] }
      else if ck.length < 4 ∨ slice ck 3 1 ≠ [0x01] then
        { s with responses := s.responses ++ [⟨.invalidState, some .badVersion, .none⟩] }
      else if ck.length ≠ 92 then
        { s with responses := s.responses ++ [⟨.invalidState, some .badLength, .none⟩] }
      else
        { s with
          inst :=
            { h := ⟨unbe32 ck 4, unbe32 ck 8, unbe32 ck 12, unbe32 ck 16⟩
              buf := slice ck 20 ((unbe64 ck 84).toNat % 64)
              len := unbe64 ck 84 }
          responses := s.responses ++ [⟨.ok, none, .none⟩] })

/-- `InvalidState` (R222): the response of RESTORE on an operand that is not acceptable, and of no
other instruction on any operand. -/
def Obligations.OnlyAnUnacceptableRestoreFails : Prop :=
  ∀ (i : Instr) (s t : State), exec i s = .next t →
    ((∃ c p, Answered s t ⟨.invalidState, c, p⟩) ↔ ∃ ck, i = .restore ck ∧ ¬ Acceptable ck) ∧
    (∀ c p, Answered s t ⟨.invalidState, c, p⟩ → p = .none)

/-- Failure leaves the target untouched (R201, R223): after a RESTORE that fails, nothing but the
error response is new, and any instruction then does to the instance and answers what it would
have without it. -/
def Obligations.FailingRestoreLeavesNoTrace : Prop :=
  ∀ (ck : List Byte) (s : State), ¬ Acceptable ck →
    ∃ c, exec (.restore ck) s = .next
        { s with responses := s.responses ++ [⟨.invalidState, some c, .none⟩] } ∧
      ∀ i : Instr, isCommand i →
        ∃ u v r, exec i { s with responses := s.responses ++ [⟨.invalidState, some c, .none⟩] } =
            .next u ∧
          exec i s = .next v ∧ u.inst = v.inst ∧ Answered s v r ∧
          u.responses = s.responses ++ [⟨.invalidState, some c, .none⟩, r]

/-- Buffer trimming (R198): the pending bytes are the first `LEN mod 64` of the buffer field, and
two acceptable operands that differ in the remaining bytes of that field only give the same
instance. That pad bytes are ignored is the spec's choice (D6). -/
def Obligations.PadBytesAreIgnored : Prop :=
  ∀ (ck : List Byte) (s : State), Acceptable ck →
    (∃ t, exec (.restore ck) s = .next t ∧
      t.inst.nx = (unbe64 ck 84).toNat % 64 ∧
      ∀ j, j < t.inst.nx → t.inst.byteAt j = ck[20 + j]?) ∧
    ∀ ck' : List Byte, Acceptable ck' →
      (∀ j, (j < 20 + (unbe64 ck 84).toNat % 64 ∨ 84 ≤ j) → ck'[j]? = ck[j]?) →
      exec (.restore ck') s = exec (.restore ck) s

/-- Round trip (R200): the checkpoint SERIALIZE responds, or the last 92 bytes of what
APPENDSERIALIZE responds, restored into any instance, succeeds and gives the instance it was made
of. -/
def Obligations.CheckpointRoundTrip : Prop :=
  ∀ (s e : State) (buffer : List Byte), Invariant s →
    ∃ t u ck, exec .serialize s = .next t ∧ Answered s t ⟨.ok, none, .bytes ck⟩ ∧
      exec (.appendSerialize buffer) s = .next u ∧
      Answered s u ⟨.ok, none, .bytes (buffer ++ ck)⟩ ∧ ck.length = 92 ∧
      ∃ v, exec (.restore ck) e = .next v ∧ Answered e v ⟨.ok, none, .none⟩ ∧
        v.inst = s.inst

/-- The other direction of R200: SERIALIZE after RESTORE of an acceptable operand whose pad bytes
are 0x00 responds that operand. -/
def Obligations.SerializeAfterRestoreReturnsTheOperand : Prop :=
  ∀ (ck : List Byte) (e : State), Acceptable ck →
    (∀ j, 20 + (unbe64 ck 84).toNat % 64 ≤ j → j < 84 → ck[j]? = some 0x00) →
    ∃ t u, exec (.restore ck) e = .next t ∧ exec .serialize t = .next u ∧
      Answered t u ⟨.ok, none, .bytes ck⟩

/-- Resuming from a checkpoint with any counter, those above 2^32 among them (R202, R160, R173):
after RESTORE and WRITE p, SUM responds the digest of the pending bytes and p folded from the
restored `H`, padded with the true count of bytes, the restored counter plus the length of p. For
counts from 2^61 up it rests on the spec's choices: the bit length keeps the low 64 bits of the
product (D9), and from 2^64 up the counter wraps (D8). -/
def Obligations.ResumedDigestUsesTheTrueCount : Prop :=
  ∀ (ck p : List Byte) (s : State), Acceptable ck → p.length < 2 ^ 64 → s.busy = none →
    s.pending = [⟨0x07, ck⟩, ⟨0x01, p⟩, ⟨0x02, []⟩] →
    ∃ t, Host.Core.run Sys2Proof.core 3 s = .next t ∧
      t.responses = s.responses ++
        [okResponse .none, okResponse .none,
         okResponse (.bytes
          (digestOf ⟨unbe32 ck 4, unbe32 ck 8, unbe32 ck 12, unbe32 ck 16⟩
            (slice ck 20 ((unbe64 ck 84).toNat % 64) ++ p)
            ((unbe64 ck 84).toNat + p.length)))]

/-! ### The whole machine -/

/-- A step runs the decoded instruction: the first command the host has issued, whole, taken from
the queue (R10, R63); while an invocation is in progress the step the step index selects, after
which the index advances by 1, or, after the step with i = 63, the invocation ends (R26, R85).
That an invocation in progress is a state of its own is the model's view (log 6). -/
def Obligations.StepRunsTheDecodedInstruction : Prop :=
  (∀ (s : State) (c : Submission) (rest : List Submission) (i : Instr),
    s.busy = none → s.pending = c :: rest → decode (.cmd c) = .ok i →
    step s = exec i { s with pending := rest }) ∧
  (∀ (s t : State) (c : Caller) (i : Instr),
    s.busy = some c → decode (.step s.xform.i) = .ok i → exec i s = .next t →
    step s = .next (
      if t.xform.i = 63 then finishTransform c t
      else { t with xform := { t.xform with i := t.xform.i + 1 } }))

/-- With no command issued and nothing in flight the machine holds its state (R237; that this is a
step of the model is its choice, log 3). -/
def Obligations.IdleStepHoldsTheState : Prop :=
  ∀ s : State, s.busy = none → s.pending = [] → step s = .next s

/-- The invariants (I-a) and (I-b) of R36 are kept by every step, from every state that meets
them: fewer than 64 bytes pending, and as many as the counter modulo 64. -/
def Obligations.InvariantKeptByEveryStep : Prop :=
  ∀ s t : State, Invariant s → step s = .next t → Invariant t

/-- The invariants hold at reset (R36, R38). -/
def Obligations.InvariantHoldsAtReset : Prop := Invariant State.reset

/-- Side effects of reading (R60): only NEW, RESET, WRITE and a successful RESTORE change the
instance, and each command that only reads answers the same twice in a row. -/
def Obligations.OnlyFourCommandsChangeTheInstance : Prop :=
  (∀ (i : Instr) (s t : State), exec i s = .next t → t.inst ≠ s.inst →
    i = .new ∨ i = .reset ∨ (∃ p, i = .write p) ∨ ∃ ck, i = .restore ck ∧ Acceptable ck) ∧
  (∀ (i : Instr) (s t u : State), exec i s = .next t → exec i t = .next u →
    (i = .blockSize ∨ i = .digestSize ∨ i = .serialize ∨ (∃ p, i = .sum p) ∨
      ∃ b, i = .appendSerialize b) →
    ∃ r, Answered s t r ∧ Answered t u r)

/-- No crash (R225): every command with every operand, in every state, returns a next state and
one response, whose payload is empty unless its status is OK (R84); a step returns a next state. -/
def Obligations.EveryCommandReturnsStateAndResponse : Prop :=
  (∀ (i : Instr) (s : State), isCommand i →
    ∃ t r, exec i s = .next t ∧ Answered s t r ∧ (r.status ≠ .ok → r.payload = .none)) ∧
  (∀ (i : Instr) (s : State), isCommand i = false →
    ∃ t, exec i s = .next t ∧ t.responses = s.responses)

/-- The machine never stops on what a host may issue: whatever the state, a step gives a next
state unless the submission at the head of the queue is no command of R81 to R83 (log 7). -/
def Obligations.StepStopsOnMalformedSubmissionsOnly : Prop :=
  ∀ s : State,
    (s.busy = none → ∀ (c : Submission) (rest : List Submission), s.pending = c :: rest →
      c.operand.length < 2 ^ 64 ∧
        (c.operand ≠ [] → c.word ∉ ([0x00, 0x03, 0x04, 0x05, 0x06] : List Byte))) →
    ∃ t, step s = .next t

/-- What the registers of the transform, the duplicate and the free values hold between commands
cannot be observed (R23, R24, R26, R34): two states a host cannot tell apart go to two states it
cannot tell apart. -/
def Obligations.ScratchRegistersCannotBeObserved : Prop :=
  ∀ s s' t : State, SameToHost s s' → step s = .next t →
    ∃ t', step s' = .next t' ∧ SameToHost t t'

/-- No operation is ever in flight between commands (R35): a step that begins with nothing in
flight ends so. -/
def Obligations.NothingInFlightAfterACommand : Prop :=
  ∀ s t : State, s.busy = none → step s = .next t → t.busy = none

/-- The frame of the commands (R37): NEW, RESET, BLOCKSIZE, DIGESTSIZE, SERIALIZE, APPENDSERIALIZE
and RESTORE use neither the registers of the transform nor the duplicate; WRITE uses the first
only when it completes a block and the second never; SUM leaves the instance; BLOCKSIZE,
DIGESTSIZE, SERIALIZE and APPENDSERIALIZE leave every byte of the buffer too; and no command
touches the queue, which `step` alone takes from. -/
def Obligations.FrameOfTheCommands : Prop :=
  ∀ (i : Instr) (s t : State), isCommand i → exec i s = .next t →
    t.pending = s.pending ∧ t.busy = s.busy ∧
    ((∀ pre, i ≠ .sum pre) → t.dup = s.dup) ∧
    ((∀ pre, i ≠ .sum pre) → (∀ p, i = .write p → s.inst.nx + p.length < 64) →
      t.xform = s.xform ∧ t.freeCount = s.freeCount) ∧
    (i ≠ .new → i ≠ .reset → (∀ p, i ≠ .write p) → (∀ ck, i ≠ .restore ck) →
      t.inst.h = s.inst.h ∧ t.inst.len = s.inst.len ∧
        ∀ j, t.inst.byteAt j = s.inst.byteAt j)
end

