-- ==== Sys2Proof/Laws/Operands.lean ====
section
/-! SUPPORT. What the helpers of the operands compute: lengths, byte order and its inverse, the
rotation as the library's, the counter's arithmetic in natural numbers. -/

namespace Sys2Proof.Machine

@[simp] theorem le32_length (w : Word) : (le32 w).length = 4 := rfl
@[simp] theorem be32_length (w : Word) : (be32 w).length = 4 := rfl
@[simp] theorem le64_length (v : DWord) : (le64 v).length = 8 := rfl
@[simp] theorem be64_length (v : DWord) : (be64 v).length = 8 := rfl
@[simp] theorem rep_length (b : Byte) (n : Nat) : (rep b n).length = n := by simp [rep]
@[simp] theorem digestBytes_length (h : Words4) : (digestBytes h).length = 16 := rfl

/-- For the amounts the rule defines it on, `rotl32` is the library's rotation. -/
theorem rotl32_eq_rotateLeft (x : Word) {s : Nat} (h : s < 32) : rotl32 x s = x.rotateLeft s := by
  simp [rotl32, BitVec.rotateLeft, BitVec.rotateLeftAux, Nat.mod_eq_of_lt h]

/-- Byte `k` of a word, counted from the low end, as a natural number. -/
theorem extractByte_toNat {n : Nat} (w : BitVec n) (k : Nat) :
    (w.extractLsb' k 8).toNat = w.toNat / 2 ^ k % 2 ^ 8 := by
  simp [BitVec.extractLsb'_toNat, Nat.shiftRight_eq_div_pow]

/-- Decoding four bytes that begin with `be32 w` gives `w` (R200). -/
theorem unbe32_be32 (w : Word) (rest : List Byte) : unbe32 (be32 w ++ rest) 0 = w := by
  apply BitVec.eq_of_toNat_eq
  have hw := w.isLt
  simp only [unbe32, be32, byteAt, List.cons_append, List.getD_cons_zero, List.getD_cons_succ,
    extractByte_toNat, BitVec.toNat_ofNat]
  omega

/-- Decoding eight bytes that begin with `be64 v` gives `v` (R200). -/
theorem unbe64_be64 (v : DWord) (rest : List Byte) : unbe64 (be64 v ++ rest) 0 = v := by
  apply BitVec.eq_of_toNat_eq
  have hv := v.isLt
  simp only [unbe64, be64, byteAt, List.cons_append, List.getD_cons_zero, List.getD_cons_succ,
    extractByte_toNat, BitVec.toNat_ofNat]
  omega

/-- Encoding the word decoded from four bytes gives the bytes back (R200). -/
theorem be32_unbe32 (s : List Byte) (j : Nat) :
    be32 (unbe32 s j) = [byteAt s j, byteAt s (j + 1), byteAt s (j + 2), byteAt s (j + 3)] := by
  have h0 := (byteAt s j).isLt
  have h1 := (byteAt s (j + 1)).isLt
  have h2 := (byteAt s (j + 2)).isLt
  have h3 := (byteAt s (j + 3)).isLt
  simp only [be32, List.cons.injEq, and_true]
  refine ⟨?_, ?_, ?_, ?_⟩ <;>
  · apply BitVec.eq_of_toNat_eq
    simp only [extractByte_toNat, unbe32, BitVec.toNat_ofNat]
    omega

/-- Encoding the doubleword decoded from eight bytes gives the bytes back (R200). -/
theorem be64_unbe64 (s : List Byte) (j : Nat) :
    be64 (unbe64 s j) =
      [byteAt s j, byteAt s (j + 1), byteAt s (j + 2), byteAt s (j + 3),
       byteAt s (j + 4), byteAt s (j + 5), byteAt s (j + 6), byteAt s (j + 7)] := by
  have h0 := (byteAt s j).isLt
  have h1 := (byteAt s (j + 1)).isLt
  have h2 := (byteAt s (j + 2)).isLt
  have h3 := (byteAt s (j + 3)).isLt
  have h4 := (byteAt s (j + 4)).isLt
  have h5 := (byteAt s (j + 5)).isLt
  have h6 := (byteAt s (j + 6)).isLt
  have h7 := (byteAt s (j + 7)).isLt
  simp only [be64, List.cons.injEq, and_true]
  refine ⟨?_, ?_, ?_, ?_, ?_, ?_, ?_, ?_⟩ <;>
  · apply BitVec.eq_of_toNat_eq
    simp only [extractByte_toNat, unbe64, BitVec.toNat_ofNat]
    omega

/-- Reading at an offset is reading the sequence without what stands before it. -/
theorem byteAt_append_right (p s : List Byte) (j : Nat) :
    byteAt (p ++ s) (p.length + j) = byteAt s j := by
  unfold byteAt
  rw [List.getD_append_right _ _ _ _ (Nat.le_add_right _ _), Nat.add_sub_cancel_left]

theorem unbe32_append_right (p s : List Byte) (j : Nat) :
    unbe32 (p ++ s) (p.length + j) = unbe32 s j := by
  simp only [unbe32, Nat.add_assoc, byteAt_append_right]

theorem unbe64_append_right (p s : List Byte) (j : Nat) :
    unbe64 (p ++ s) (p.length + j) = unbe64 s j := by
  simp only [unbe64, Nat.add_assoc, byteAt_append_right]

/-- The pending length is the counter modulo 64, on the full counter (R30). -/
theorem pendingLen_eq (len : DWord) : pendingLen len = len.toNat % 64 := by
  simp [pendingLen, BitVec.extractLsb'_toNat]

theorem pendingLen_lt (len : DWord) : pendingLen len < 64 := by
  rw [pendingLen_eq]; omega

/-- The counter wraps modulo 2^64 (R160). -/
theorem addLen_toNat (len : DWord) (n : Nat) :
    (addLen len n).toNat = (len.toNat + n) % 2 ^ 64 := by
  simp [addLen, BitVec.toNat_add]

/-- Adding twice is adding the sum (R156). -/
theorem addLen_addLen (len : DWord) (m n : Nat) :
    addLen (addLen len m) n = addLen len (m + n) := by
  simp [addLen, BitVec.ofNat_add, BitVec.add_assoc]

@[simp] theorem addLen_zero (len : DWord) : addLen len 0 = len := by simp [addLen]

/-- The bit length keeps the low 64 bits of the product (R173). -/
theorem bitLen_toNat (len : DWord) : (bitLen len).toNat = len.toNat * 8 % 2 ^ 64 := by
  simp [bitLen, BitVec.toNat_shiftLeft, Nat.shiftLeft_eq]

/-- The number of pad zeros (R172): 55 - NX up to 55, 119 - NX from 56 on. -/
theorem zeroCount_eq {n : Nat} (h : n ≤ 63) :
    zeroCount n = if n ≤ 55 then 55 - n else 119 - n := by
  unfold zeroCount; split <;> omega

/-- The padded buffer has one block for NX <= 55 and two for NX >= 56 (R172). -/
theorem padded_length {buf : List Byte} (len : DWord) (h : buf.length ≤ 63) :
    (padded buf len).length = if buf.length ≤ 55 then 64 else 128 := by
  simp [padded, zeroCount_eq h]; split <;> omega

/-- The buffer field has 64 bytes (R193). -/
theorem bufferField_length {buf : List Byte} (h : buf.length ≤ 64) :
    (bufferField buf).length = 64 := by
  simp [bufferField, Config.blockSize]; omega

/-- A checkpoint has 92 bytes (R193). -/
theorem checkpoint_length {m : Instance} (h : m.nx < 64) : (checkpoint m).length = 92 := by
  have h' : m.buf.length ≤ 64 := Nat.le_of_lt h
  simp [checkpoint, bufferField_length h', Config.ckptTag]

end Sys2Proof.Machine
end

