-- ==== Sys2Proof/Laws/Decode.lean ====
section
/-! SUPPORT. What the decoder answers, said once: the step indices in order, the reserved command
words, and the nine commands an accepted submission can be. -/

namespace Sys2Proof

/-- The bound of R51 as an inequality. -/
theorem operandFits_iff (p : List Byte) : operandFits p = true ↔ p.length < 2 ^ 64 := by
  unfold operandFits Config.operandBound
  exact decide_eq_true_iff

theorem operandFits_false_iff (p : List Byte) : operandFits p = false ↔ 2 ^ 64 ≤ p.length := by
  rw [← Bool.not_eq_true, operandFits_iff, Nat.not_lt]

/-- The step indices decode to the steps in order (R85). -/
theorem decodeStep_eq (i : BitVec 6) :
    decodeStep i = (stepsRound0 ++ stepsRound1 ++ stepsRound2 ++ stepsRound3).getD i.toNat .step0 := by
  have hn : i.toNat < 64 := i.isLt
  unfold decodeStep fieldRound fieldPos
  generalize i.toNat = n at hn ⊢
  interval_cases n <;> rfl

/-- A reserved word is rejected as such, whatever its operand (R91). -/
theorem decodeCmd_reserved {c : Submission} (h : 9 ≤ c.word.toNat) :
    decodeCmd c = .error .reservedWord := by
  have hw := c.word.isLt
  unfold decodeCmd fieldZero fieldOp
  by_cases hz : c.word.toNat / 16 = 0
  · simp only [hz, ne_eq, not_true, if_false]
    split <;> first | rfl | omega
  · simp only [hz, ne_eq, not_false_eq_true, if_true]

/-- A word below 9 is decoded by its number alone (R82). -/
theorem decodeCmd_of_lt (c : Submission) (n : Nat) :
    c.word.toNat = n → n < 9 →
    decodeCmd c =
      match n with
      | 0 => plainCommand .new c.operand
      | 1 => operandCommand .write c.operand
      | 2 => operandCommand .sum c.operand
      | 3 => plainCommand .reset c.operand
      | 4 => plainCommand .blockSize c.operand
      | 5 => plainCommand .digestSize c.operand
      | 6 => plainCommand .serialize c.operand
      | 7 => operandCommand .restore c.operand
      | _ => operandCommand .appendSerialize c.operand := by
  intro hc h
  unfold decodeCmd fieldZero fieldOp
  rw [hc]
  interval_cases n <;> rfl

end Sys2Proof
end

