-- ==== Sys2Proof/Laws/State.lean ====
section
/-! SUPPORT. One lemma per field per update of the state, true by rfl, so that no proof unfolds a
record update. -/

namespace Sys2Proof.Machine

section Respond
variable (r : Response) (s : State)
@[simp] theorem respond_inst : (respond r s).inst = s.inst := rfl
@[simp] theorem respond_xform : (respond r s).xform = s.xform := rfl
@[simp] theorem respond_dup : (respond r s).dup = s.dup := rfl
@[simp] theorem respond_busy : (respond r s).busy = s.busy := rfl
@[simp] theorem respond_pending : (respond r s).pending = s.pending := rfl
@[simp] theorem respond_responses : (respond r s).responses = s.responses ++ [r] := rfl
@[simp] theorem respond_freeCount : (respond r s).freeCount = s.freeCount := rfl
end Respond

section RespondOk
variable (p : Payload) (s : State)
@[simp] theorem respondOk_inst : (respondOk p s).inst = s.inst := rfl
@[simp] theorem respondOk_xform : (respondOk p s).xform = s.xform := rfl
@[simp] theorem respondOk_dup : (respondOk p s).dup = s.dup := rfl
@[simp] theorem respondOk_busy : (respondOk p s).busy = s.busy := rfl
@[simp] theorem respondOk_pending : (respondOk p s).pending = s.pending := rfl
@[simp] theorem respondOk_responses :
    (respondOk p s).responses = s.responses ++ [⟨.ok, none, p⟩] := rfl
@[simp] theorem respondOk_freeCount : (respondOk p s).freeCount = s.freeCount := rfl
end RespondOk

/-- Everything the one exception does (R223): one response, nothing else. -/
theorem raiseInvalidState_eq (c : Cause) (s : State) :
    raiseInvalidState c s =
      { s with responses := s.responses ++ [⟨.invalidState, some c, .none⟩] } := rfl

/-- Everything the answer to a reserved word does (R91): one response, nothing else. -/
theorem badCommand_eq (s : State) :
    badCommand s = { s with responses := s.responses ++ [⟨.badCommand, none, .none⟩] } := rfl

section SetInstance
variable (m : Instance) (s : State)
@[simp] theorem setInstance_inst : (setInstance m s).inst = m := rfl
@[simp] theorem setInstance_xform : (setInstance m s).xform = s.xform := rfl
@[simp] theorem setInstance_dup : (setInstance m s).dup = s.dup := rfl
@[simp] theorem setInstance_busy : (setInstance m s).busy = s.busy := rfl
@[simp] theorem setInstance_pending : (setInstance m s).pending = s.pending := rfl
@[simp] theorem setInstance_responses : (setInstance m s).responses = s.responses := rfl
@[simp] theorem setInstance_freeCount : (setInstance m s).freeCount = s.freeCount := rfl
end SetInstance

section TakeDuplicate
variable (s : State)
@[simp] theorem takeDuplicate_inst : (takeDuplicate s).inst = s.inst := rfl
@[simp] theorem takeDuplicate_xform : (takeDuplicate s).xform = s.xform := rfl
@[simp] theorem takeDuplicate_dup : (takeDuplicate s).dup = s.inst := rfl
@[simp] theorem takeDuplicate_busy : (takeDuplicate s).busy = s.busy := rfl
@[simp] theorem takeDuplicate_pending : (takeDuplicate s).pending = s.pending := rfl
@[simp] theorem takeDuplicate_responses : (takeDuplicate s).responses = s.responses := rfl
@[simp] theorem takeDuplicate_freeCount : (takeDuplicate s).freeCount = s.freeCount := rfl
end TakeDuplicate

section DropDuplicate
variable (s : State)
@[simp] theorem dropDuplicate_inst : (dropDuplicate s).inst = s.inst := rfl
@[simp] theorem dropDuplicate_xform : (dropDuplicate s).xform = s.xform := rfl
@[simp] theorem dropDuplicate_busy : (dropDuplicate s).busy = s.busy := rfl
@[simp] theorem dropDuplicate_pending : (dropDuplicate s).pending = s.pending := rfl
@[simp] theorem dropDuplicate_responses : (dropDuplicate s).responses = s.responses := rfl
@[simp] theorem dropDuplicate_freeCount : (dropDuplicate s).freeCount = s.freeCount + 1 := rfl
end DropDuplicate

section DropXform
variable (s : State)
@[simp] theorem dropXform_inst : (dropXform s).inst = s.inst := rfl
@[simp] theorem dropXform_dup : (dropXform s).dup = s.dup := rfl
@[simp] theorem dropXform_busy : (dropXform s).busy = s.busy := rfl
@[simp] theorem dropXform_pending : (dropXform s).pending = s.pending := rfl
@[simp] theorem dropXform_responses : (dropXform s).responses = s.responses := rfl
@[simp] theorem dropXform_freeCount : (dropXform s).freeCount = s.freeCount + 1 := rfl
end DropXform

section SetChaining
variable (c : Caller) (h : Words4) (s : State)
@[simp] theorem setChaining_xform : (setChaining c h s).xform = s.xform := by cases c <;> rfl
@[simp] theorem setChaining_busy : (setChaining c h s).busy = s.busy := by cases c <;> rfl
@[simp] theorem setChaining_pending : (setChaining c h s).pending = s.pending := by
  cases c <;> rfl
@[simp] theorem setChaining_responses : (setChaining c h s).responses = s.responses := by
  cases c <;> rfl
@[simp] theorem setChaining_freeCount : (setChaining c h s).freeCount = s.freeCount := by
  cases c <;> rfl
@[simp] theorem chaining_setChaining : chaining c (setChaining c h s) = h := by cases c <;> rfl
@[simp] theorem setChaining_inst_buf : (setChaining c h s).inst.buf = s.inst.buf := by
  cases c <;> rfl
@[simp] theorem setChaining_inst_len : (setChaining c h s).inst.len = s.inst.len := by
  cases c <;> rfl
@[simp] theorem setChaining_dup_buf : (setChaining c h s).dup.buf = s.dup.buf := by
  cases c <;> rfl
@[simp] theorem setChaining_dup_len : (setChaining c h s).dup.len = s.dup.len := by
  cases c <;> rfl
/-- A transform on the duplicate never reaches the instance (R34, R178). -/
@[simp] theorem setChaining_dup_inst : (setChaining .dup h s).inst = s.inst := rfl
@[simp] theorem setChaining_live_dup : (setChaining .live h s).dup = s.dup := rfl
end SetChaining

section Finish
variable (c : Caller) (s : State)
@[simp] theorem finishTransform_busy : (finishTransform c s).busy = none := rfl
@[simp] theorem finishTransform_pending : (finishTransform c s).pending = s.pending := by
  simp [finishTransform]
@[simp] theorem finishTransform_responses : (finishTransform c s).responses = s.responses := by
  simp [finishTransform]
@[simp] theorem chaining_finishTransform :
    chaining c (finishTransform c s) = addWords (chaining c s) s.xform.acc := by
  cases c <;> rfl
@[simp] theorem finishTransform_inst_buf : (finishTransform c s).inst.buf = s.inst.buf := by
  cases c <;> rfl
@[simp] theorem finishTransform_inst_len : (finishTransform c s).inst.len = s.inst.len := by
  cases c <;> rfl
end Finish

section Consume
variable (s : State)
@[simp] theorem consume_inst : (consume s).inst = s.inst := by unfold consume; split <;> rfl
@[simp] theorem consume_xform : (consume s).xform = s.xform := by unfold consume; split <;> rfl
@[simp] theorem consume_dup : (consume s).dup = s.dup := by unfold consume; split <;> rfl
@[simp] theorem consume_busy : (consume s).busy = s.busy := by unfold consume; split <;> rfl
@[simp] theorem consume_responses : (consume s).responses = s.responses := by
  unfold consume; split <;> rfl
@[simp] theorem consume_freeCount : (consume s).freeCount = s.freeCount := by
  unfold consume; split <;> rfl
end Consume

/-- With nothing in flight, taking a command removes the first of the queue. -/
theorem consume_of_idle {s : State} {c : Submission} {rest : List Submission}
    (hb : s.busy = none) (hp : s.pending = c :: rest) : consume s = { s with pending := rest } := by
  simp [consume, hb, hp]

/-- Inside an invocation nothing is taken. -/
theorem consume_of_busy {s : State} {c : Caller} (hb : s.busy = some c) : consume s = s := by
  simp [consume, hb]

end Sys2Proof.Machine
end

