-- ==== Sys2Proof/Laws/Transform.lean ====
section
/-! SUPPORT. What a step writes and leaves (R122), and what the block loop does (R152, R174), the memory law of this engine: how many blocks
are taken, what is left, that loops run one after another are one loop, and that the loop is the
fold over the blocks. -/

set_option Elab.async false

namespace Sys2Proof.Machine

/-- The bytes that are left are those after the blocks taken. -/
theorem absorb_rest (q : Nat) (h : Words4) (t : List Byte) : (absorb q h t).2 = t.drop (64 * q) := by
  induction q generalizing h t with
  | zero => simp [absorb]
  | succ q ih =>
    simp only [absorb, ih, Config.blockSize, List.drop_drop]
    congr 1; omega

/-- Fewer than 64 bytes are left when every complete block is taken (R33). -/
theorem absorb_rest_length (h : Words4) (t : List Byte) :
    (absorb (t.length / 64) h t).2.length = t.length % 64 := by
  rw [absorb_rest, List.length_drop]; omega

/-- Taking `p` blocks and then `q` is taking `p + q`. -/
theorem absorb_add (p q : Nat) (h : Words4) (t : List Byte) :
    absorb (p + q) h t = absorb q (absorb p h t).1 (absorb p h t).2 := by
  induction p generalizing h t with
  | zero => simp [absorb]
  | succ p ih => rw [Nat.add_right_comm]; simp only [absorb, ih]

/-- Bytes after the blocks taken do not matter to the state and stay behind what is left. -/
theorem absorb_append (q : Nat) (h : Words4) (t u : List Byte) (hq : 64 * q ≤ t.length) :
    absorb q h (t ++ u) = ((absorb q h t).1, (absorb q h t).2 ++ u) := by
  induction q generalizing h t with
  | zero => simp [absorb]
  | succ q ih =>
    have hb : Config.blockSize = 64 := rfl
    have h64 : 64 ≤ t.length := by omega
    simp only [absorb, hb]
    rw [List.take_append_of_le_length h64, List.drop_append_of_le_length h64, ih]
    rw [List.length_drop]; omega

/-- The state after the blocks is the fold over them by their number. -/
theorem absorb_state (q : Nat) (h : Words4) (t : List Byte) :
    (absorb q h t).1 = (List.range q).foldl (fun h k => transform h (block t k)) h := by
  induction q with
  | zero => rfl
  | succ q ih =>
    rw [absorb_add q 1, List.range_succ, List.foldl_append, ← ih]
    simp [absorb, absorb_rest, block, slice, Config.blockSize]

theorem absorb_eq_foldBlocks (h : Words4) (t : List Byte) :
    (absorb (t.length / 64) h t).1 = foldBlocks h t := absorb_state _ h t

/-- Everything WRITE does to the instance (R152), in the terms of the claims. -/
theorem writeInstance_eq (p : List Byte) (m : Instance) :
    writeInstance p m =
      { h := foldBlocks m.h (m.buf ++ p)
        buf := (m.buf ++ p).drop (64 * ((m.buf ++ p).length / 64))
        len := addLen m.len p.length } := by
  simp only [writeInstance, Config.blockSize, absorb_rest, absorb_eq_foldBlocks]

/-- WRITE leaves fewer than 64 bytes pending (R33, R36). -/
theorem writeInstance_nx (p : List Byte) (m : Instance) :
    (writeInstance p m).nx = (m.nx + p.length) % 64 := by
  have h := absorb_rest_length m.h (m.buf ++ p)
  rw [List.length_append] at h
  simpa [writeInstance, Instance.nx, Config.blockSize] using h

/-! ### The four shapes of a step: what each leaves, and what it writes (R122) -/

section Shapes
variable (f : Word → Word → Word → Word) (g : Fin 16) (k : Word) (n : Nat) (u : XformRegs)

@[simp] theorem writesA_x : (writesA f g k n u).x = u.x := by simp only [writesA]
@[simp] theorem writesA_i : (writesA f g k n u).i = u.i := by simp only [writesA]
@[simp] theorem writesA_b : (writesA f g k n u).acc.b = u.acc.b := by simp only [writesA]
@[simp] theorem writesA_c : (writesA f g k n u).acc.c = u.acc.c := by simp only [writesA]
@[simp] theorem writesA_d : (writesA f g k n u).acc.d = u.acc.d := by simp only [writesA]
@[simp] theorem writesD_x : (writesD f g k n u).x = u.x := by simp only [writesD]
@[simp] theorem writesD_i : (writesD f g k n u).i = u.i := by simp only [writesD]
@[simp] theorem writesD_a : (writesD f g k n u).acc.a = u.acc.a := by simp only [writesD]
@[simp] theorem writesD_b : (writesD f g k n u).acc.b = u.acc.b := by simp only [writesD]
@[simp] theorem writesD_c : (writesD f g k n u).acc.c = u.acc.c := by simp only [writesD]
@[simp] theorem writesC_x : (writesC f g k n u).x = u.x := by simp only [writesC]
@[simp] theorem writesC_i : (writesC f g k n u).i = u.i := by simp only [writesC]
@[simp] theorem writesC_a : (writesC f g k n u).acc.a = u.acc.a := by simp only [writesC]
@[simp] theorem writesC_b : (writesC f g k n u).acc.b = u.acc.b := by simp only [writesC]
@[simp] theorem writesC_d : (writesC f g k n u).acc.d = u.acc.d := by simp only [writesC]
@[simp] theorem writesB_x : (writesB f g k n u).x = u.x := by simp only [writesB]
@[simp] theorem writesB_i : (writesB f g k n u).i = u.i := by simp only [writesB]
@[simp] theorem writesB_a : (writesB f g k n u).acc.a = u.acc.a := by simp only [writesB]
@[simp] theorem writesB_c : (writesB f g k n u).acc.c = u.acc.c := by simp only [writesB]
@[simp] theorem writesB_d : (writesB f g k n u).acc.d = u.acc.d := by simp only [writesB]

end Shapes

/-- Every step has one of the four shapes. -/
theorem xsteps_shape : ∀ st ∈ xsteps, ∃ f g k n,
    st = writesA f g k n ∨ st = writesD f g k n ∨ st = writesC f g k n ∨ st = writesB f g k n := by
  intro st hst
  simp only [xsteps, xround0, xround1, xround2, xround3, List.cons_append, List.nil_append,
    List.mem_cons, List.not_mem_nil, or_false] at hst
  rcases hst with
    rfl | rfl | rfl | rfl | rfl | rfl | rfl | rfl | rfl | rfl | rfl | rfl | rfl | rfl | rfl | rfl | rfl | rfl | rfl | rfl | rfl | rfl | rfl | rfl | rfl | rfl | rfl | rfl | rfl | rfl | rfl | rfl | rfl | rfl | rfl | rfl | rfl | rfl | rfl | rfl | rfl | rfl | rfl | rfl | rfl | rfl | rfl | rfl | rfl | rfl | rfl | rfl | rfl | rfl | rfl | rfl | rfl | rfl | rfl | rfl | rfl | rfl | rfl | rfl <;>
    first
      | exact ⟨_, _, _, _, .inl rfl⟩
      | exact ⟨_, _, _, _, .inr (.inl rfl)⟩
      | exact ⟨_, _, _, _, .inr (.inr (.inl rfl))⟩
      | exact ⟨_, _, _, _, .inr (.inr (.inr rfl))⟩

theorem xsteps_length : xsteps.length = 64 := rfl

/-- No step changes a message word or the step index (R111). -/
theorem xsteps_keep (n : Nat) (u : XformRegs) :
    ((xsteps.getD n id) u).x = u.x ∧ ((xsteps.getD n id) u).i = u.i := by
  by_cases hn : n < xsteps.length
  · rw [List.getD_eq_getElem _ _ hn]
    obtain ⟨f, g, k, m, h | h | h | h⟩ := xsteps_shape _ (List.getElem_mem hn) <;> simp [h]
  · rw [List.getD_eq_default _ _ (Nat.le_of_not_lt hn)]
    exact ⟨rfl, rfl⟩

end Sys2Proof.Machine
end

