-- ==== Sys2Proof/Laws/Step.lean ====
section
/-! SUPPORT. What an instruction and a step can do, said once: the inversion lemmas the claims
about the whole machine rest on. -/

namespace Sys2Proof.Machine

/-- The meaning of the instruction a step index decodes to is the step of that number (R85, R113),
on the registers of the transform alone (R110). -/
theorem exec_of_index (i : BitVec 6) (s : State) :
    exec (decodeStep i) s = .next { s with xform := (xsteps.getD i.toNat id) s.xform } := by
  rw [decodeStep_eq]
  have hn : i.toNat < 64 := i.isLt
  generalize i.toNat = n at hn ⊢
  interval_cases n <;> rfl

/-- Everything a step index can decode to is a step (R93). -/
theorem isCommand_decodeStep (i : BitVec 6) : isCommand (decodeStep i) = false := by
  rw [decodeStep_eq]
  have hn : i.toNat < 64 := i.isLt
  generalize i.toNat = n at hn ⊢
  interval_cases n <;> rfl

/-- What a command does to the responses, the queue and what is in flight: one response more
(R84), the rest as it was. -/
theorem exec_command (i : Instr) (s : State) (h : isCommand i = true) :
    ∃ t r, exec i s = .next t ∧ t.responses = s.responses ++ [r] ∧ t.pending = s.pending ∧
      t.busy = s.busy := by
  cases i
  case new => exact ⟨_, ⟨.ok, none, .none⟩, rfl, rfl, rfl, rfl⟩
  case reset => exact ⟨_, ⟨.ok, none, .none⟩, rfl, rfl, rfl, rfl⟩
  case write p =>
    refine ⟨_, ⟨.ok, none, .none⟩, rfl, ?_⟩
    split <;> exact ⟨rfl, rfl, rfl⟩
  case sum pre => exact ⟨_, ⟨.ok, none, .bytes _⟩, rfl, rfl, rfl, rfl⟩
  case blockSize => exact ⟨_, ⟨.ok, none, .number _⟩, rfl, rfl, rfl, rfl⟩
  case digestSize => exact ⟨_, ⟨.ok, none, .number _⟩, rfl, rfl, rfl, rfl⟩
  case serialize => exact ⟨_, ⟨.ok, none, .bytes _⟩, rfl, rfl, rfl, rfl⟩
  case appendSerialize b => exact ⟨_, ⟨.ok, none, .bytes _⟩, rfl, rfl, rfl, rfl⟩
  case restore ck =>
    simp only [exec, execRestore]
    split
    · exact ⟨_, ⟨.invalidState, some _, .none⟩, rfl, rfl, rfl, rfl⟩
    · exact ⟨_, ⟨.ok, none, .none⟩, rfl, rfl, rfl, rfl⟩
  all_goals exact nomatch h

/-- The four ways a step can give a next state: nothing to run; a command, whole; the answer to a
reserved word; one step of an invocation in progress and the advance of its index. -/
theorem step_cases {s t : State} (h : step s = .next t) :
    (s.busy = none ∧ s.pending = [] ∧ t = s) ∨
    (∃ c rest i, s.busy = none ∧ s.pending = c :: rest ∧ decode (.cmd c) = .ok i ∧
      exec i { s with pending := rest } = .next t) ∨
    (∃ c rest, s.busy = none ∧ s.pending = c :: rest ∧ decode (.cmd c) = .error .reservedWord ∧
      t = badCommand { s with pending := rest }) ∨
    (∃ c u, s.busy = some c ∧ exec (decodeStep s.xform.i) s = .next u ∧ t = advance c u) := by
  unfold step at h
  cases hb : s.busy with
  | some c =>
    have hf := exec_of_index s.xform.i s
    simp only [fetch, hb, decode, consume_of_busy hb, hf, afterward] at h
    refine .inr (.inr (.inr ⟨c, _, rfl, hf, ?_⟩))
    rw [hb]
    exact (Host.Outcome.next.inj h).symm
  | none =>
    cases hp : s.pending with
    | nil =>
      simp only [fetch, hb, hp] at h
      exact .inl ⟨rfl, rfl, (Host.Outcome.next.inj h).symm⟩
    | cons c rest =>
      simp only [fetch, hb, hp, consume_of_idle hb hp, afterward] at h
      cases hd : decode (.cmd c) with
      | ok i =>
        simp only [hd] at h
        refine .inr (.inl ⟨c, rest, i, rfl, rfl, hd, ?_⟩)
        split at h <;> simp_all
      | error e =>
        cases e <;> simp only [hd] at h <;> first
          | exact .inr (.inr (.inl ⟨c, rest, rfl, rfl, hd, (Host.Outcome.next.inj h).symm⟩))
          | exact nomatch h

end Sys2Proof.Machine
end

