-- ==== Sys2Proof/Laws/Run.lean ====
section
/-! SUPPORT. Running the machine several steps, and the two kinds of step as equations: a command,
whole, and one step of an invocation in progress. -/

set_option Elab.async false

namespace Sys2Proof.Machine

/-- `n` steps of this machine, with the types of the model written out. -/
def runN (n : Nat) (s : State) : Host.Outcome State Fault Refusal :=
  Host.Core.run Sys2Proof.core n s

theorem run_core_eq (n : Nat) (s : State) : Host.Core.run Sys2Proof.core n s = runN n s := rfl

theorem runN_zero (s : State) : runN 0 s = .next s := rfl

/-- The first step, then the others. -/
theorem runN_step {s t : State} (n : Nat) (h : step s = .next t) : runN (n + 1) s = runN n t := by
  have h' : Sys2Proof.core.step s = .next t := h
  simp only [runN, Host.Core.run, h']; rfl

theorem runN_fault {s : State} {r : Fault} (n : Nat) (h : step s = .fault r) :
    runN (n + 1) s = .fault r := by
  have h' : Sys2Proof.core.step s = .fault r := h
  simp only [runN, Host.Core.run, h']; rfl

theorem runN_refused {s : State} {r : Refusal} (n : Nat) (h : step s = .refused r) :
    runN (n + 1) s = .refused r := by
  have h' : Sys2Proof.core.step s = .refused r := h
  simp only [runN, Host.Core.run, h']; rfl

/-- The other steps, then the last. -/
theorem runN_last {s t u : State} (n : Nat) (h : runN n s = .next t) (h' : step t = .next u) :
    runN (n + 1) s = .next u := by
  induction n generalizing s with
  | zero =>
    cases (runN_zero s).symm.trans h
    rw [runN_step 0 h']; rfl
  | succ n ih =>
    cases hs : step s with
    | next v => rw [runN_step n hs] at h; rw [runN_step (n + 1) hs]; exact ih h
    | fault r => rw [runN_fault n hs] at h; cases h
    | refused r => rw [runN_refused n hs] at h; cases h

/-- A step takes the first command of the queue and runs it. -/
theorem step_of_command {s t : State} {c : Submission} {rest : List Submission} {i : Instr}
    (hb : s.busy = none) (hp : s.pending = c :: rest) (hd : decode (.cmd c) = .ok i)
    (he : exec i { s with pending := rest } = .next t) : step s = .next t := by
  rw [hb] at he
  simp only [step, fetch, hb, hp, hd, consume_of_idle hb hp, he, afterward]

/-- A step inside an invocation runs the step the index selects and advances. -/
theorem step_of_busy {s : State} {c : Caller} (h : s.busy = some c) :
    step s = .next (advance c { s with xform := (xsteps.getD s.xform.i.toNat id) s.xform }) := by
  have hf := exec_of_index s.xform.i s
  simp only [step, fetch, h, decode, consume_of_busy h, hf, afterward]

/-- What a step computes does not depend on the step index it finds (R122). -/
theorem xsteps_with_index (n : Nat) (u : XformRegs) (j : BitVec 6) :
    (xsteps.getD n id) { u with i := j } = { (xsteps.getD n id) u with i := j } := by
  by_cases hn : n < xsteps.length
  · rw [List.getD_eq_getElem _ _ hn]
    obtain ⟨f, g, k, m, h | h | h | h⟩ := xsteps_shape _ (List.getElem_mem hn) <;> rw [h] <;>
      simp only [writesA, writesB, writesC, writesD]
  · rw [List.getD_eq_default _ _ (Nat.le_of_not_lt hn)]; rfl

end Sys2Proof.Machine
end

