-- ==== Sys2Proof/Laws/Commands.lean ====
section
/-! SUPPORT. What WRITE, SUM and RESTORE can do, said once, and the readings of the checkpoint's
fields they rest on. -/

namespace Sys2Proof.Machine

/-- Everything WRITE does (R152, R37). -/
theorem exec_write_next (p : List Byte) (s : State) :
    ∃ t, exec (.write p) s = .next t ∧ t.inst = writeInstance p s.inst ∧
      t.responses = s.responses ++ [⟨.ok, none, .none⟩] ∧ t.dup = s.dup ∧ t.busy = s.busy ∧
      t.pending = s.pending ∧
      (s.inst.nx + p.length < 64 → t.xform = s.xform ∧ t.freeCount = s.freeCount) := by
  refine ⟨_, rfl, ?_⟩
  split
  · rename_i h
    refine ⟨rfl, rfl, rfl, rfl, rfl, fun h' => ?_⟩
    simp [writeTransforms, Config.blockSize, Instance.nx] at h h'
    omega
  · exact ⟨rfl, rfl, rfl, rfl, rfl, fun _ => ⟨rfl, rfl⟩⟩

/-- Everything of SUM that a host can see (R153). -/
theorem exec_sum_next (pre : List Byte) (s : State) :
    ∃ t, exec (.sum pre) s = .next t ∧ t.inst = s.inst ∧
      t.responses =
        s.responses ++ [⟨.ok, none, .bytes (pre ++ finalize s.inst.h s.inst.buf s.inst.len)⟩] ∧
      t.busy = s.busy ∧ t.pending = s.pending :=
  ⟨_, rfl, rfl, rfl, rfl, rfl⟩

/-- RESTORE's checks with the constants written out (R196). -/
theorem restoreCheck_eq (s : List Byte) :
    restoreCheck s =
      if s.length < 3 ∨ s.take 3 ≠ [0x6d, 0x64, 0x35] then some .badTag
      else if s.length < 4 ∨ byteAt s 3 ≠ 0x01 then some .badVersion
      else if s.length ≠ 92 then some .badLength
      else none := rfl

/-- The checks pass exactly on the acceptable operands (R197). -/
theorem restoreCheck_none (ck : List Byte) : restoreCheck ck = none ↔ Acceptable ck := by
  have take4 (h : 4 ≤ ck.length) : (ck.take 3 = [0x6d, 0x64, 0x35] ∧ byteAt ck 3 = 1) ↔
      ck.take 4 = [0x6d, 0x64, 0x35, 0x01] := by
    match ck, h with
    | a :: b :: c :: d :: r, _ => simp [byteAt]; tauto
  rw [restoreCheck_eq]; unfold Acceptable
  constructor
  · intro h
    split at h; · cases h
    split at h; · cases h
    split at h; · cases h
    rename_i h1 h2 h3
    push Not at h1 h2 h3
    exact ⟨h3, (take4 h2.1).1 ⟨h1.2, h2.2⟩⟩
  · rintro ⟨h1, h2⟩
    have := (take4 (by omega)).2 h2
    rw [if_neg (by simp [this.1]; omega), if_neg (by simp [this.2]; omega), if_neg (by simp [h1])]

/-- RESTORE of an acceptable operand (R196). -/
theorem exec_restore_acceptable {ck : List Byte} (s : State) (h : Acceptable ck) :
    exec (.restore ck) s = .next (respondOk .none (setInstance (restoredInstance ck) s)) := by
  simp only [exec, execRestore, (restoreCheck_none ck).2 h]

/-- RESTORE of any other operand (R201, R223). -/
theorem exec_restore_unacceptable {ck : List Byte} (h : ¬ Acceptable ck) :
    ∃ c, ∀ s : State, exec (.restore ck) s = .next (raiseInvalidState c s) := by
  cases hc : restoreCheck ck with
  | none => exact absurd ((restoreCheck_none ck).1 hc) h
  | some c => exact ⟨c, fun s => by simp only [exec, execRestore, hc]⟩

/-- A command with an operand that is short enough decodes to its instruction (R82, R83). -/
theorem decode_operandCommand {w : Byte} {mk : List Byte → Instr} {p : List Byte}
    (h : p.length < 2 ^ 64) (hd : decodeCmd ⟨w, p⟩ = operandCommand mk p) :
    decode (.cmd ⟨w, p⟩) = .ok (mk p) := by
  have : operandFits p = true := (operandFits_iff p).2 h
  rw [decode, hd, operandCommand, this]; rfl

theorem decode_write {p : List Byte} (h : p.length < 2 ^ 64) :
    decode (.cmd ⟨0x01, p⟩) = .ok (.write p) :=
  decode_operandCommand h (by rw [decodeCmd_of_lt _ 1 rfl (by omega)]; rfl)

theorem decode_sum {p : List Byte} (h : p.length < 2 ^ 64) :
    decode (.cmd ⟨0x02, p⟩) = .ok (.sum p) :=
  decode_operandCommand h (by rw [decodeCmd_of_lt _ 2 rfl (by omega)]; rfl)

theorem decode_restore {p : List Byte} (h : p.length < 2 ^ 64) :
    decode (.cmd ⟨0x07, p⟩) = .ok (.restore p) :=
  decode_operandCommand h (by rw [decodeCmd_of_lt _ 7 rfl (by omega)]; rfl)

theorem decode_appendSerialize {p : List Byte} (h : p.length < 2 ^ 64) :
    decode (.cmd ⟨0x08, p⟩) = .ok (.appendSerialize p) :=
  decode_operandCommand h (by rw [decodeCmd_of_lt _ 8 rfl (by omega)]; rfl)

/-- What a submission decodes to is a command (R80). -/
theorem isCommand_of_decode {c : Submission} {i : Instr} (h : decode (.cmd c) = .ok i) :
    isCommand i = true := by
  by_cases h9 : 9 ≤ c.word.toNat
  · rw [decode, decodeCmd_reserved h9] at h; cases h
  · rw [decode, decodeCmd_of_lt _ c.word.toNat rfl (by omega)] at h
    split at h <;> simp only [plainCommand, operandCommand] at h <;> split at h <;> cases h <;> rfl

/-! ### Slices -/

theorem slice_zero (s : List Byte) (n : Nat) : slice s 0 n = s.take n := by simp [slice]

theorem slice_getElem? (s : List Byte) (lo n j : Nat) (h : j < n) :
    (slice s lo n)[j]? = s[lo + j]? := by
  simp [slice, h]

theorem slice_length {s : List Byte} {lo n : Nat} (h : lo + n ≤ s.length) :
    (slice s lo n).length = n := by
  simp [slice]; omega

/-- The pending length of a restored instance (R198). -/
theorem restoredInstance_nx {ck : List Byte} (h : ck.length = 92) :
    (restoredInstance ck).nx = (unbe64 ck 84).toNat % 64 := by
  simp only [restoredInstance, Instance.nx]
  rw [slice_length (by have := pendingLen_lt (unbe64 ck 84); omega), pendingLen_eq]

/-- The number of pad zeros is the remainder of the integers that R172 writes. -/
theorem zeroCount_int (n : Nat) : ((55 - (n : Int)) % 64).toNat = zeroCount n := by
  unfold zeroCount; omega

end Sys2Proof.Machine
end

