-- ==== Sys2Proof/Laws/PerInstr.lean ====
section
/-! SUPPORT. Statements made per instruction, one lemma per constructor. -/

/-! ### `EncodingIsOfItsFormat`: the encoding of an instruction is one that the tables of R82 and
R85 define: a command word with `zero` = 0000 and `op` at most 0x8, or a step index; and a command
that takes no operand is encoded with none. -/

namespace Sys2Proof.Laws.EncodingIsOfItsFormat

/-- An encoding that R82 or R85 defines. -/
def Defined : Encoding → Prop
  | .cmd c => fieldZero c.word = 0 ∧ fieldOp c.word ≤ 8 ∧
      (fieldOp c.word ∈ [1, 2, 7, 8] ∨ c.operand = [])
  | .step _ => True

/-- The statement. -/
def Statement (i : Instr) : Prop := Defined (encode i)

theorem new : Statement .new := ⟨rfl, by simp [fieldOp], .inr rfl⟩
theorem write (p : List Byte) : Statement (.write p) := ⟨by simp [fieldZero], by simp [fieldOp], .inl (by simp [fieldOp])⟩
theorem sum (pre : List Byte) : Statement (.sum pre) := ⟨by simp [fieldZero], by simp [fieldOp], .inl (by simp [fieldOp])⟩
theorem reset : Statement .reset := ⟨rfl, by simp [fieldOp], .inr rfl⟩
theorem blockSize : Statement .blockSize := ⟨rfl, by simp [fieldOp], .inr rfl⟩
theorem digestSize : Statement .digestSize := ⟨rfl, by simp [fieldOp], .inr rfl⟩
theorem serialize : Statement .serialize := ⟨rfl, by simp [fieldOp], .inr rfl⟩
theorem restore (ck : List Byte) : Statement (.restore ck) := ⟨by simp [fieldZero], by simp [fieldOp], .inl (by simp [fieldOp])⟩
theorem appendSerialize (buffer : List Byte) : Statement (.appendSerialize buffer) := ⟨by simp [fieldZero], by simp [fieldOp], .inl (by simp [fieldOp])⟩
theorem step0 : Statement .step0 := trivial
theorem step1 : Statement .step1 := trivial
theorem step2 : Statement .step2 := trivial
theorem step3 : Statement .step3 := trivial
theorem step4 : Statement .step4 := trivial
theorem step5 : Statement .step5 := trivial
theorem step6 : Statement .step6 := trivial
theorem step7 : Statement .step7 := trivial
theorem step8 : Statement .step8 := trivial
theorem step9 : Statement .step9 := trivial
theorem step10 : Statement .step10 := trivial
theorem step11 : Statement .step11 := trivial
theorem step12 : Statement .step12 := trivial
theorem step13 : Statement .step13 := trivial
theorem step14 : Statement .step14 := trivial
theorem step15 : Statement .step15 := trivial
theorem step16 : Statement .step16 := trivial
theorem step17 : Statement .step17 := trivial
theorem step18 : Statement .step18 := trivial
theorem step19 : Statement .step19 := trivial
theorem step20 : Statement .step20 := trivial
theorem step21 : Statement .step21 := trivial
theorem step22 : Statement .step22 := trivial
theorem step23 : Statement .step23 := trivial
theorem step24 : Statement .step24 := trivial
theorem step25 : Statement .step25 := trivial
theorem step26 : Statement .step26 := trivial
theorem step27 : Statement .step27 := trivial
theorem step28 : Statement .step28 := trivial
theorem step29 : Statement .step29 := trivial
theorem step30 : Statement .step30 := trivial
theorem step31 : Statement .step31 := trivial
theorem step32 : Statement .step32 := trivial
theorem step33 : Statement .step33 := trivial
theorem step34 : Statement .step34 := trivial
theorem step35 : Statement .step35 := trivial
theorem step36 : Statement .step36 := trivial
theorem step37 : Statement .step37 := trivial
theorem step38 : Statement .step38 := trivial
theorem step39 : Statement .step39 := trivial
theorem step40 : Statement .step40 := trivial
theorem step41 : Statement .step41 := trivial
theorem step42 : Statement .step42 := trivial
theorem step43 : Statement .step43 := trivial
theorem step44 : Statement .step44 := trivial
theorem step45 : Statement .step45 := trivial
theorem step46 : Statement .step46 := trivial
theorem step47 : Statement .step47 := trivial
theorem step48 : Statement .step48 := trivial
theorem step49 : Statement .step49 := trivial
theorem step50 : Statement .step50 := trivial
theorem step51 : Statement .step51 := trivial
theorem step52 : Statement .step52 := trivial
theorem step53 : Statement .step53 := trivial
theorem step54 : Statement .step54 := trivial
theorem step55 : Statement .step55 := trivial
theorem step56 : Statement .step56 := trivial
theorem step57 : Statement .step57 := trivial
theorem step58 : Statement .step58 := trivial
theorem step59 : Statement .step59 := trivial
theorem step60 : Statement .step60 := trivial
theorem step61 : Statement .step61 := trivial
theorem step62 : Statement .step62 := trivial
theorem step63 : Statement .step63 := trivial

end Sys2Proof.Laws.EncodingIsOfItsFormat
end

