-- ==== Sys2Proof/Tests/Slice0.lean ====
section
/-! SUPPORT. The model's own tests: one instruction or one function each. The expected results are the
spec's (95_test_vectors.md, the worked examples of the rules, and the encoding tables R82, R85), named in
each docstring. After them, for every obligation with hypotheses, a concrete state and operands that meet
them together. -/

set_option Elab.async false

namespace Sys2Proof.Tests

open Sys2Proof Sys2Proof.Machine

/-! ### Helpers -/

/-- The response an outcome ends with. -/
def answer (o : Host.Outcome State Fault Refusal) : Option Response :=
  match o with
  | .next t => t.responses.getLast?
  | .fault _ => none
  | .refused _ => none

/-- The instance an outcome leaves. -/
def instanceAfter (o : Host.Outcome State Fault Refusal) : Option Instance :=
  match o with
  | .next t => some t.inst
  | .fault _ => none
  | .refused _ => none

/-- The registers of the transform an outcome leaves. -/
def xformAfter (o : Host.Outcome State Fault Refusal) : Option XformRegs :=
  match o with
  | .next t => some t.xform
  | .fault _ => none
  | .refused _ => none

/-- Why an outcome was refused. -/
def refusal (o : Host.Outcome State Fault Refusal) : Option Refusal :=
  match o with
  | .next _ => none
  | .fault _ => none
  | .refused r => some r

/-- The instruction a decoding gives. -/
def instrOf (d : Except DecodeError Instr) : Option Instr :=
  match d with
  | .ok i => some i
  | .error _ => none

/-- The reason a decoding fails. -/
def errorOf (d : Except DecodeError Instr) : Option DecodeError :=
  match d with
  | .ok _ => none
  | .error e => some e

/-- `INIT` as the spec prints it (R38). -/
def initWords : Words4 := ⟨0x67452301, 0xefcdab89, 0x98badcfe, 0x10325476⟩

/-- `H` after the block of 64 bytes 0x61 (T8, W5). -/
def hOf64a : Words4 := ⟨0x89d4ff56, 0x125cd962, 0x69cade33, 0x0033e325⟩

/-- An idle machine with an instance of its own. -/
def idle (m : Instance) : State := { State.reset with inst := m }

/-- An idle machine with one command issued. -/
def issued (m : Instance) (w : Byte) (p : List Byte) : State := { idle m with pending := [⟨w, p⟩] }

/-- After `NEW`; `WRITE "abc"`. -/
def abc : Instance := ⟨initWords, [0x61, 0x62, 0x63], 3⟩

/-- After `NEW`; `WRITE "q"` (section 8 of 95_test_vectors). -/
def targetQ : Instance := ⟨initWords, [0x71], 1⟩

/-- After `NEW`; `WRITE rep(0x61, 70)` (W6). -/
def w6 : Instance := ⟨hOf64a, List.replicate 6 0x61, 70⟩

/-- The bytes `lo, lo + 1, ..` of a number of `n`. -/
def bytesFrom (lo n : Nat) : List Byte := (List.range n).map fun k => BitVec.ofNat 8 (lo + k)

/-- A machine about to run a step of `Transform(INIT, 80 00 .. 00)`, the block of T1. -/
def t1State (acc : Words4) : State :=
  { State.reset with xform := ⟨acc, (Vector.replicate 16 0).set 0 0x80, 0⟩, busy := some .live }

/-- Runs each step on the registers the row before it of T1 gives, and compares the result with its
own row. -/
def traceHolds : Nat → Words4 → List Words4 → Bool
  | _, _, [] => true
  | i, before, row :: rows =>
    (xformAfter (exec (decodeStep (BitVec.ofNat 6 i)) (t1State before)) ==
      some { (t1State before).xform with acc := row }) && traceHolds (i + 1) row rows

/-- The rows of T1 of round 0. -/
def t1Round0 : List Words4 :=
  [⟨0xa5202774, 0xefcdab89, 0x98badcfe, 0x10325476⟩, ⟨0xa5202774, 0xefcdab89, 0x98badcfe, 0xf59592dd⟩,
   ⟨0xa5202774, 0xefcdab89, 0xe7f06b23, 0xf59592dd⟩, ⟨0xa5202774, 0x1b163203, 0xe7f06b23, 0xf59592dd⟩,
   ⟨0x32033344, 0x1b163203, 0xe7f06b23, 0xf59592dd⟩, ⟨0x32033344, 0x1b163203, 0xe7f06b23, 0x2f35d494⟩,
   ⟨0x32033344, 0x1b163203, 0xf5b158db, 0x2f35d494⟩, ⟨0x32033344, 0x9bc13ce9, 0xf5b158db, 0x2f35d494⟩,
   ⟨0x3893b991, 0x9bc13ce9, 0xf5b158db, 0x2f35d494⟩, ⟨0x3893b991, 0x9bc13ce9, 0xf5b158db, 0xfce4a312⟩,
   ⟨0x3893b991, 0x9bc13ce9, 0xe1ef0576, 0xfce4a312⟩, ⟨0x3893b991, 0x70768a29, 0xe1ef0576, 0xfce4a312⟩,
   ⟨0xf56c7cf1, 0x70768a29, 0xe1ef0576, 0xfce4a312⟩, ⟨0xf56c7cf1, 0x70768a29, 0xe1ef0576, 0x374943a7⟩,
   ⟨0xf56c7cf1, 0x70768a29, 0x5aa53f75, 0x374943a7⟩, ⟨0xf56c7cf1, 0xd6819c6a, 0x5aa53f75, 0x374943a7⟩]

/-- The rows of T1 of round 1. -/
def t1Round1 : List Words4 :=
  [⟨0x1c7d7513, 0xd6819c6a, 0x5aa53f75, 0x374943a7⟩, ⟨0x1c7d7513, 0xd6819c6a, 0x5aa53f75, 0x7bd57a3a⟩,
   ⟨0x1c7d7513, 0xd6819c6a, 0xc095f13a, 0x7bd57a3a⟩, ⟨0x1c7d7513, 0xbd782e17, 0xc095f13a, 0x7bd57a3a⟩,
   ⟨0x3d1e3e6c, 0xbd782e17, 0xc095f13a, 0x7bd57a3a⟩, ⟨0x3d1e3e6c, 0xbd782e17, 0xc095f13a, 0x68b7b3e3⟩,
   ⟨0x3d1e3e6c, 0xbd782e17, 0xeb41643e, 0x68b7b3e3⟩, ⟨0x3d1e3e6c, 0xe422531a, 0xeb41643e, 0x68b7b3e3⟩,
   ⟨0x306ec122, 0xe422531a, 0xeb41643e, 0x68b7b3e3⟩, ⟨0x306ec122, 0xe422531a, 0xeb41643e, 0xd28c77c2⟩,
   ⟨0x306ec122, 0xe422531a, 0xa3c663da, 0xd28c77c2⟩, ⟨0x306ec122, 0xa0572807, 0xa3c663da, 0xd28c77c2⟩,
   ⟨0x13707036, 0xa0572807, 0xa3c663da, 0xd28c77c2⟩, ⟨0x13707036, 0xa0572807, 0xa3c663da, 0xae7813db⟩,
   ⟨0x13707036, 0xa0572807, 0x1c31c384, 0xae7813db⟩, ⟨0x13707036, 0xa2205f1f, 0x1c31c384, 0xae7813db⟩]

/-- The rows of T1 of round 2. -/
def t1Round2 : List Words4 :=
  [⟨0xdf63eaa1, 0xa2205f1f, 0x1c31c384, 0xae7813db⟩, ⟨0xdf63eaa1, 0xa2205f1f, 0x1c31c384, 0xc3689f5b⟩,
   ⟨0xdf63eaa1, 0xa2205f1f, 0x12f3e755, 0xc3689f5b⟩, ⟨0xdf63eaa1, 0x004b6669, 0x12f3e755, 0xc3689f5b⟩,
   ⟨0x5f7a9b2e, 0x004b6669, 0x12f3e755, 0xc3689f5b⟩, ⟨0x5f7a9b2e, 0x004b6669, 0x12f3e755, 0xabc34e16⟩,
   ⟨0x5f7a9b2e, 0x004b6669, 0x91ca4cb7, 0xabc34e16⟩, ⟨0x5f7a9b2e, 0xc5dc8c15, 0x91ca4cb7, 0xabc34e16⟩,
   ⟨0x4497169d, 0xc5dc8c15, 0x91ca4cb7, 0xabc34e16⟩, ⟨0x4497169d, 0xc5dc8c15, 0x91ca4cb7, 0x76fd93d4⟩,
   ⟨0x4497169d, 0xc5dc8c15, 0xfd95f243, 0x76fd93d4⟩, ⟨0x4497169d, 0x0fe32453, 0xfd95f243, 0x76fd93d4⟩,
   ⟨0x3f55edfd, 0x0fe32453, 0xfd95f243, 0x76fd93d4⟩, ⟨0x3f55edfd, 0x0fe32453, 0xfd95f243, 0x22a31f54⟩,
   ⟨0x3f55edfd, 0x0fe32453, 0x68d84ea2, 0x22a31f54⟩, ⟨0x3f55edfd, 0xca7d2dbd, 0x68d84ea2, 0x22a31f54⟩]

/-- The rows of T1 of round 3. -/
def t1Round3 : List Words4 :=
  [⟨0x93aa2577, 0xca7d2dbd, 0x68d84ea2, 0x22a31f54⟩, ⟨0x93aa2577, 0xca7d2dbd, 0x68d84ea2, 0x1688dc85⟩,
   ⟨0x93aa2577, 0xca7d2dbd, 0xcd85b8cb, 0x1688dc85⟩, ⟨0x93aa2577, 0x561e0689, 0xcd85b8cb, 0x1688dc85⟩,
   ⟨0x5625a114, 0x561e0689, 0xcd85b8cb, 0x1688dc85⟩, ⟨0x5625a114, 0x561e0689, 0xcd85b8cb, 0x3450f42b⟩,
   ⟨0x5625a114, 0x561e0689, 0x392ad0d0, 0x3450f42b⟩, ⟨0x5625a114, 0x1e77fa61, 0x392ad0d0, 0x3450f42b⟩,
   ⟨0x474a9c8c, 0x1e77fa61, 0x392ad0d0, 0x3450f42b⟩, ⟨0x474a9c8c, 0x1e77fa61, 0x392ad0d0, 0xdfce00bc⟩,
   ⟨0x474a9c8c, 0x1e77fa61, 0x36594b14, 0xdfce00bc⟩, ⟨0x474a9c8c, 0x30130182, 0x36594b14, 0xdfce00bc⟩,
   ⟨0x7246fad3, 0x30130182, 0x36594b14, 0xdfce00bc⟩, ⟨0x7246fad3, 0x30130182, 0x36594b14, 0x6e10a476⟩,
   ⟨0x7246fad3, 0x30130182, 0xff4ea3eb, 0x6e10a476⟩, ⟨0x7246fad3, 0x14e45506, 0xff4ea3eb, 0x6e10a476⟩]

/-! ### Decoding: words written out from the tables of R82 and R85 -/

/-- R82. -/
theorem test_decode_new : instrOf (decode (.cmd ⟨0b00000000, []⟩)) = some (.new) := by decide +kernel
/-- R82. -/
theorem test_decode_write : instrOf (decode (.cmd ⟨0b00000001, [0xab, 0x00]⟩)) = some (.write [0xab, 0x00]) := by decide +kernel
/-- R82. -/
theorem test_decode_sum : instrOf (decode (.cmd ⟨0b00000010, [0xab, 0x00]⟩)) = some (.sum [0xab, 0x00]) := by decide +kernel
/-- R82. -/
theorem test_decode_reset : instrOf (decode (.cmd ⟨0b00000011, []⟩)) = some (.reset) := by decide +kernel
/-- R82. -/
theorem test_decode_blockSize : instrOf (decode (.cmd ⟨0b00000100, []⟩)) = some (.blockSize) := by decide +kernel
/-- R82. -/
theorem test_decode_digestSize : instrOf (decode (.cmd ⟨0b00000101, []⟩)) = some (.digestSize) := by decide +kernel
/-- R82. -/
theorem test_decode_serialize : instrOf (decode (.cmd ⟨0b00000110, []⟩)) = some (.serialize) := by decide +kernel
/-- R82. -/
theorem test_decode_restore : instrOf (decode (.cmd ⟨0b00000111, [0xab, 0x00]⟩)) = some (.restore [0xab, 0x00]) := by decide +kernel
/-- R82. -/
theorem test_decode_appendSerialize : instrOf (decode (.cmd ⟨0b00001000, [0xab, 0x00]⟩)) = some (.appendSerialize [0xab, 0x00]) := by decide +kernel

/-- R85: every step index of round 0, bit by bit. -/
theorem test_decode_steps_round0 :
    decodeStep 0b000000 = .step0 ∧ decodeStep 0b000001 = .step1 ∧
    decodeStep 0b000010 = .step2 ∧ decodeStep 0b000011 = .step3 ∧
    decodeStep 0b000100 = .step4 ∧ decodeStep 0b000101 = .step5 ∧
    decodeStep 0b000110 = .step6 ∧ decodeStep 0b000111 = .step7 ∧
    decodeStep 0b001000 = .step8 ∧ decodeStep 0b001001 = .step9 ∧
    decodeStep 0b001010 = .step10 ∧ decodeStep 0b001011 = .step11 ∧
    decodeStep 0b001100 = .step12 ∧ decodeStep 0b001101 = .step13 ∧
    decodeStep 0b001110 = .step14 ∧ decodeStep 0b001111 = .step15 := by
  decide +kernel

/-- R85: every step index of round 1, bit by bit. -/
theorem test_decode_steps_round1 :
    decodeStep 0b010000 = .step16 ∧ decodeStep 0b010001 = .step17 ∧
    decodeStep 0b010010 = .step18 ∧ decodeStep 0b010011 = .step19 ∧
    decodeStep 0b010100 = .step20 ∧ decodeStep 0b010101 = .step21 ∧
    decodeStep 0b010110 = .step22 ∧ decodeStep 0b010111 = .step23 ∧
    decodeStep 0b011000 = .step24 ∧ decodeStep 0b011001 = .step25 ∧
    decodeStep 0b011010 = .step26 ∧ decodeStep 0b011011 = .step27 ∧
    decodeStep 0b011100 = .step28 ∧ decodeStep 0b011101 = .step29 ∧
    decodeStep 0b011110 = .step30 ∧ decodeStep 0b011111 = .step31 := by
  decide +kernel

/-- R85: every step index of round 2, bit by bit. -/
theorem test_decode_steps_round2 :
    decodeStep 0b100000 = .step32 ∧ decodeStep 0b100001 = .step33 ∧
    decodeStep 0b100010 = .step34 ∧ decodeStep 0b100011 = .step35 ∧
    decodeStep 0b100100 = .step36 ∧ decodeStep 0b100101 = .step37 ∧
    decodeStep 0b100110 = .step38 ∧ decodeStep 0b100111 = .step39 ∧
    decodeStep 0b101000 = .step40 ∧ decodeStep 0b101001 = .step41 ∧
    decodeStep 0b101010 = .step42 ∧ decodeStep 0b101011 = .step43 ∧
    decodeStep 0b101100 = .step44 ∧ decodeStep 0b101101 = .step45 ∧
    decodeStep 0b101110 = .step46 ∧ decodeStep 0b101111 = .step47 := by
  decide +kernel

/-- R85: every step index of round 3, bit by bit. -/
theorem test_decode_steps_round3 :
    decodeStep 0b110000 = .step48 ∧ decodeStep 0b110001 = .step49 ∧
    decodeStep 0b110010 = .step50 ∧ decodeStep 0b110011 = .step51 ∧
    decodeStep 0b110100 = .step52 ∧ decodeStep 0b110101 = .step53 ∧
    decodeStep 0b110110 = .step54 ∧ decodeStep 0b110111 = .step55 ∧
    decodeStep 0b111000 = .step56 ∧ decodeStep 0b111001 = .step57 ∧
    decodeStep 0b111010 = .step58 ∧ decodeStep 0b111011 = .step59 ∧
    decodeStep 0b111100 = .step60 ∧ decodeStep 0b111101 = .step61 ∧
    decodeStep 0b111110 = .step62 ∧ decodeStep 0b111111 = .step63 := by
  decide +kernel

/-- R91: `zero` not 0000, and the first and last reserved `op`, whatever the operand. -/
theorem test_decode_reserved :
    errorOf (decode (.cmd ⟨0x10, []⟩)) = some .reservedWord ∧
    errorOf (decode (.cmd ⟨0x09, []⟩)) = some .reservedWord ∧
    errorOf (decode (.cmd ⟨0x0f, [0x01]⟩)) = some .reservedWord ∧
    errorOf (decode (.cmd ⟨0xf1, [0x01]⟩)) = some .reservedWord := by decide +kernel

/-- R81, R82: BLOCKSIZE takes no operand (log 7). -/
theorem test_decode_stray : errorOf (decode (.cmd ⟨0x04, [0x00]⟩)) = some .strayOperand := by
  decide +kernel

/-- R83: an operand of 2^64 bytes (log 7). -/
theorem test_decode_too_long :
    decode (.cmd ⟨0x01, List.replicate (2 ^ 64) 0⟩) = .error .operandTooLong := by
  rw [decode, decodeCmd_of_lt _ 1 rfl (by omega)]
  have : operandFits (List.replicate (2 ^ 64) 0) = false :=
    (operandFits_false_iff _).2 (by rw [List.length_replicate])
  simp only [operandCommand, this]
  rfl

/-- The table's numbers (log 1): 0x08 is APPENDSERIALIZE, 0x09 STEP 9, 0x3f STEP 63, 0x40 a reserved
command word. -/
theorem test_table_words :
    decodeTableWord 8 0x08 = some (.appendSerialize []) ∧ decodeTableWord 8 0x09 = some .step9 ∧
    decodeTableWord 8 0x3f = some .step63 ∧ decodeTableWord 6 0x05 = some .step5 ∧
    decodeTableWord 8 0x40 = none := by decide +kernel

/-! ### WellFormed refuses an ill-formed term, for each of its checks -/

theorem smoke_write : (Instr.write (List.replicate (2 ^ 64) 0)).wellFormed = false :=
  (operandFits_false_iff _).2 (by rw [List.length_replicate])
theorem smoke_sum : (Instr.sum (List.replicate (2 ^ 64) 0)).wellFormed = false :=
  (operandFits_false_iff _).2 (by rw [List.length_replicate])
theorem smoke_restore : (Instr.restore (List.replicate (2 ^ 64) 0)).wellFormed = false :=
  (operandFits_false_iff _).2 (by rw [List.length_replicate])
theorem smoke_appendSerialize :
    (Instr.appendSerialize (List.replicate (2 ^ 64) 0)).wellFormed = false :=
  (operandFits_false_iff _).2 (by rw [List.length_replicate])

/-! ### Primitives (section 2 of 95_test_vectors) -/

/-- A5, A6, A7, A8, A12. -/
theorem test_rotl32 :
    rotl32 0x80000000 1 = 0x00000001 ∧ rotl32 0x80000001 7 = 0x000000c0 ∧
    rotl32 0x00000001 23 = 0x00800000 ∧ rotl32 0x12345678 4 = 0x23456781 ∧
    rotl32 0xd76aa4f7 7 = 0xb5527beb := by decide +kernel

/-- A13 to A16, A20. -/
theorem test_bit_functions :
    f0 0x0f0f0f0f 0x33333333 0x55555555 = 0x53535353 ∧
    f1 0x0f0f0f0f 0x33333333 0x55555555 = 0x27272727 ∧
    f2 0x0f0f0f0f 0x33333333 0x55555555 = 0x69696969 ∧
    f3 0x0f0f0f0f 0x33333333 0x55555555 = 0x9c9c9c9c ∧ f3 0 0 0 = 0xffffffff := by decide +kernel

/-- A29 to A33, A35, A37, A38. -/
theorem test_byte_order :
    unle32 [0x61, 0x62, 0x63, 0x80] 0 = 0x80636261 ∧
    le32 0xd98c1dd4 = [0xd4, 0x1d, 0x8c, 0xd9] ∧ be32 0x67452301 = [0x67, 0x45, 0x23, 0x01] ∧
    unbe32 [0x89, 0xd4, 0xff, 0x56] 0 = 0x89d4ff56 ∧
    le64 0x0000000800000018 = [0x18, 0x00, 0x00, 0x00, 0x08, 0x00, 0x00, 0x00] ∧
    be64 0x0000000100000003 = [0x00, 0x00, 0x00, 0x01, 0x00, 0x00, 0x00, 0x03] ∧
    unbe64 (List.replicate 8 0xff) 0 = 0xffffffffffffffff := by decide +kernel

/-- A39, A40, A41, and R160's first example. -/
theorem test_counter :
    bitLen 0x2000000000000005 = 40 ∧ addLen 0xffffffffffffffff 2 = 1 ∧
    pendingLen 0x0000000100000003 = 3 ∧ addLen 0xffffffff 1 = 0x0000000100000000 := by decide +kernel

/-! ### The steps: every row of T1, one step each on the registers of the row before -/

theorem test_steps_round0 : traceHolds 0 initWords t1Round0 = true := by decide +kernel

theorem test_steps_round1 :
    traceHolds 16 ⟨0xf56c7cf1, 0xd6819c6a, 0x5aa53f75, 0x374943a7⟩ t1Round1 = true := by decide +kernel

theorem test_steps_round2 :
    traceHolds 32 ⟨0x13707036, 0xa2205f1f, 0x1c31c384, 0xae7813db⟩ t1Round2 = true := by decide +kernel

theorem test_steps_round3 :
    traceHolds 48 ⟨0x3f55edfd, 0xca7d2dbd, 0x68d84ea2, 0x22a31f54⟩ t1Round3 = true := by decide +kernel

/-- The last step of an invocation (T1, R123): the final addition into `H`. -/
theorem test_final_addition :
    (instanceAfter (step { t1State ⟨0x7246fad3, 0x30130182, 0xff4ea3eb, 0x6e10a476⟩ with
        inst := Instance.reset
        xform := ⟨⟨0x7246fad3, 0x30130182, 0xff4ea3eb, 0x6e10a476⟩, (Vector.replicate 16 0).set 0 0x80, 63⟩ })).map (·.h) =
      some ⟨0xd98c1dd4, 0x04b2008f, 0x980980e9, 0x7e42f8ec⟩ := by decide +kernel

/-- A step of an invocation advances the index and no other register (R26). -/
theorem test_step_advances :
    xformAfter (step { State.reset with busy := some .dup }) =
      some ⟨⟨0xb5523c6b, 0, 0, 0⟩, Vector.replicate 16 0, 1⟩ := by decide +kernel

/-! ### The whole transform (T3, T4, T5, T7, T8) -/

theorem test_transform_T3 : transform initWords (List.replicate 64 0xff) = ⟨0x561987b4, 0x493e9151, 0xbdc6554b, 0x015c40df⟩ := by decide +kernel
theorem test_transform_T4 : transform initWords (bytesFrom 0 64) = ⟨0x9144d9ca, 0xd901e4c9, 0x72fc5b38, 0x625ff51e⟩ := by decide +kernel
/-- The same in the rotating-role form (R125). -/
theorem test_rotating_T4 : rotatingTransform initWords (bytesFrom 0 64) = ⟨0x9144d9ca, 0xd901e4c9, 0x72fc5b38, 0x625ff51e⟩ := by decide +kernel
theorem test_transform_T5 : transform ⟨0, 0, 0, 0⟩ (List.replicate 64 0x00) = ⟨0xf7cd1c97, 0xa5483681, 0x2b68d832, 0xf90ca639⟩ := by decide +kernel
theorem test_transform_T7 : transform ⟨0xffffffff, 0xffffffff, 0xffffffff, 0xffffffff⟩ (bytesFrom 0 64) = ⟨0xcdf3fcdd, 0xc510339b, 0xebe311fa, 0x514eca4d⟩ := by decide +kernel
theorem test_transform_T8 : transform initWords (List.replicate 64 0x61) = hOf64a := by decide +kernel

/-! ### The commands, each as one step of the machine -/

/-- R150, from an instance in the middle of a message. -/
theorem test_new :
    instanceAfter (step (issued w6 0x00 [])) = some ⟨initWords, [], 0⟩ ∧
    answer (step (issued w6 0x00 [])) = some ⟨.ok, none, .none⟩ := by decide +kernel

/-- R151: pending bytes are discarded. -/
theorem test_reset :
    instanceAfter (step (issued abc 0x03 [])) = some ⟨initWords, [], 0⟩ ∧
    answer (step (issued abc 0x03 [])) = some ⟨.ok, none, .none⟩ := by decide +kernel

/-- W6: 70 bytes, one block and six bytes kept. -/
theorem test_write_70 :
    instanceAfter (step (issued Instance.reset 0x01 (List.replicate 70 0x61))) = some w6 := by
  decide +kernel

/-- L3: the counter wraps, the block is completed by the first operand byte. -/
theorem test_write_wrap :
    instanceAfter (step (issued ⟨initWords, bytesFrom 0 63, 0xffffffffffffffff⟩ 0x01 [0x3f, 0x40])) =
      some ⟨⟨0x9144d9ca, 0xd901e4c9, 0x72fc5b38, 0x625ff51e⟩, [0x40], 1⟩ := by decide +kernel

/-- S2 with a prefix (section 4): the prefix, then the digest; the instance as it was. -/
theorem test_sum_prefix :
    answer (step (issued abc 0x02 [0xde, 0xad, 0xbe, 0xef])) = some ⟨.ok, none, .bytes
      ([0xde, 0xad, 0xbe, 0xef] ++
      [0x90, 0x01, 0x50, 0x98, 0x3c, 0xd2, 0x4f, 0xb0, 0xd6, 0x96, 0x3f, 0x7d, 0x28, 0xe1, 0x7f, 0x72])⟩ ∧
    instanceAfter (step (issued abc 0x02 [0xde, 0xad, 0xbe, 0xef])) = some abc := by decide +kernel

/-- F5: 56 pending bytes, two blocks. -/
theorem test_sum_two_blocks :
    answer (step (issued ⟨initWords, List.replicate 56 0x61, 56⟩ 0x02 [])) = some ⟨.ok, none, .bytes
      ([0x3b, 0x0c, 0x8a, 0xc7, 0x03, 0xf8, 0x28, 0xb0, 0x4c, 0x6c, 0x19, 0x70, 0x06, 0xd1, 0x72, 0x18])⟩ := by decide +kernel

/-- S1 and S3, the source's golden digests. -/
theorem test_finalize_golden :
    finalize initWords [] 0 =
      [0xd4, 0x1d, 0x8c, 0xd9, 0x8f, 0x00, 0xb2, 0x04, 0xe9, 0x80, 0x09, 0x98, 0xec, 0xf8, 0x42, 0x7e] ∧
    finalize initWords [0x61] 1 =
      [0x0c, 0xc1, 0x75, 0xb9, 0xc0, 0xf1, 0xb6, 0xa8, 0x31, 0xc3, 0x99, 0xe2, 0x69, 0x77, 0x26, 0x61] := by decide +kernel

/-- L1: a counter above 2^32; narrowed to 32 bits the digest would be that of "abc". F4: NX = 55. -/
theorem test_finalize_large_counter :
    finalize initWords [0x61, 0x62, 0x63] 0x0000000100000003 =
      [0xda, 0xa1, 0xa3, 0x73, 0xaf, 0xb4, 0x4d, 0x25, 0x40, 0xd6, 0x45, 0x20, 0x13, 0xc2, 0x3c, 0x82] ∧
    finalize initWords (List.replicate 55 0x61) 55 =
      [0xef, 0x17, 0x72, 0xb6, 0xdf, 0xf9, 0xa1, 0x22, 0x35, 0x85, 0x52, 0x95, 0x4a, 0xd0, 0xdf, 0x65] := by decide +kernel

/-- R154, R155. -/
theorem test_constants :
    answer (step (issued w6 0x04 [])) = some ⟨.ok, none, .number 64⟩ ∧
    answer (step (issued w6 0x05 [])) = some ⟨.ok, none, .number 16⟩ := by decide +kernel

/-- The checkpoint K3, printed in section 6. -/
def k3 : List Byte :=
  [0x6d, 0x64, 0x35, 0x01, 0x89, 0xd4, 0xff, 0x56, 0x12, 0x5c, 0xd9, 0x62, 0x69, 0xca, 0xde, 0x33] ++
  [0x00, 0x33, 0xe3, 0x25, 0x61, 0x61, 0x61, 0x61, 0x61, 0x61, 0x00, 0x00, 0x00, 0x00, 0x00, 0x00] ++
  [0x00, 0x00, 0x00, 0x00, 0x00, 0x00, 0x00, 0x00, 0x00, 0x00, 0x00, 0x00, 0x00, 0x00, 0x00, 0x00] ++
  [0x00, 0x00, 0x00, 0x00, 0x00, 0x00, 0x00, 0x00, 0x00, 0x00, 0x00, 0x00, 0x00, 0x00, 0x00, 0x00] ++
  [0x00, 0x00, 0x00, 0x00, 0x00, 0x00, 0x00, 0x00, 0x00, 0x00, 0x00, 0x00, 0x00, 0x00, 0x00, 0x00] ++
  [0x00, 0x00, 0x00, 0x00, 0x00, 0x00, 0x00, 0x00, 0x00, 0x00, 0x00, 0x46]

/-- K3. -/
theorem test_serialize : answer (step (issued w6 0x06 [])) = some ⟨.ok, none, .bytes k3⟩ := by
  decide +kernel

/-- R195: after the host's two bytes, exactly K3. -/
theorem test_appendSerialize :
    answer (step (issued w6 0x08 [0xff, 0xfe])) = some ⟨.ok, none, .bytes ([0xff, 0xfe] ++ k3)⟩ := by
  decide +kernel

/-- E14, and R198's example: other pad bytes give the same instance. -/
theorem test_restore :
    instanceAfter (step (issued targetQ 0x07 k3)) = some w6 ∧
    instanceAfter (step (issued targetQ 0x07
      (k3.take 26 ++ List.replicate 58 0xee ++ k3.drop 84))) = some w6 := by decide +kernel

/-- The cause a RESTORE of an operand answers with, the instance being as it was. -/
def rejects (ck : List Byte) (c : Cause) : Bool :=
  answer (step (issued targetQ 0x07 ck)) == some ⟨.invalidState, some c, .none⟩ &&
    instanceAfter (step (issued targetQ 0x07 ck)) == some targetQ

/-- E1 to E13 but E11. -/
theorem test_restore_rejects :
    rejects [] .badTag = true ∧ rejects [0x6d, 0x64] .badTag = true ∧
    rejects [0x6d, 0x64, 0x35] .badVersion = true ∧ rejects [0x6d, 0x64, 0x35, 0x01] .badLength = true ∧
    rejects (k3.take 91) .badLength = true ∧ rejects (k3 ++ [0x00]) .badLength = true ∧
    rejects (k3.set 2 0x34) .badTag = true ∧
    rejects ([0x73, 0x68, 0x61, 0x03] ++ k3.drop 4) .badTag = true ∧
    rejects (k3.set 3 0x02) .badVersion = true ∧ rejects (k3.set 3 0x00) .badVersion = true ∧
    rejects ([0x6d, 0x64, 0x35, 0x02] ++ List.replicate 10 0x00) .badVersion = true ∧
    rejects ([0x73, 0x68, 0x61] ++ List.replicate 17 0x00) .badTag = true := by decide +kernel

/-- P4 row 7: a reserved command word. -/
theorem test_bad_command :
    answer (step (issued w6 0x0c [])) = some ⟨.badCommand, none, .none⟩ ∧
    instanceAfter (step (issued w6 0x0c [])) = some w6 := by decide +kernel

/-- A stray operand is refused by name (log 7). -/
theorem test_stray_refused :
    refusal (step (issued w6 0x06 [0x00])) = some (.strayOperand 0x06) := by decide +kernel

/-- The status and cause codes of R221. -/
theorem test_codes :
    [Status.ok.code, Status.invalidState.code, Status.badCommand.code] = [0, 1, 2] ∧
    [Cause.badTag.code, Cause.badVersion.code, Cause.badLength.code] = [1, 2, 3] := by decide

/-- `withFetchWord` (log 6): the very next step runs the word, a command and a step. -/
theorem test_withFetchWord :
    answer (step (State.reset.withFetchWord 8 0x04)) = some ⟨.ok, none, .number 64⟩ ∧
    xformAfter (step (State.reset.withFetchWord 8 0x09)) =
      (xformAfter (exec .step9 State.reset)).map ({ · with i := 10 }) := by decide +kernel

/-! ### Witnesses: for every obligation with hypotheses, a state and operands that meet them all -/

/-- The operand bound, at 0 and 1 bytes. -/
theorem witness_operand_bound :
    ([] : List Byte).length < 2 ^ 64 ∧ ([0xab] : List Byte).length < 2 ^ 64 := by decide
theorem witness_WordsDecodeToWhatTheyName : ([0xab] : List Byte).length < 2 ^ 64 :=
  witness_operand_bound.2
theorem witness_DecodeOfEncodeIsTheInstruction :
    WellFormed (.write [0xab]) ∧ WellFormed .step63 := by decide +kernel
theorem witness_EncodeOfDecodeIsTheEncoding :
    decode (.cmd ⟨0x01, [0xab]⟩) = .ok (.write [0xab]) ∧ decode (.step 63) = .ok .step63 := ⟨rfl, rfl⟩
/-- Both halves of the condition: `op` at 0x9 and at 0xf, and `zero` not 0000. -/
theorem witness_ReservedWordAnswersBadCommand :
    (issued abc 0x09 []).busy = none ∧ (issued abc 0x09 []).pending = [⟨0x09, []⟩] ∧
    9 ≤ ((0x09 : Byte).extractLsb' 0 4).toNat ∧ 9 ≤ ((0x0f : Byte).extractLsb' 0 4).toNat ∧
    (0x10 : Byte).extractLsb' 4 4 ≠ 0 := by decide
theorem witness_MalformedSubmissionIsRefused :
    (issued abc 0x06 [0x00]).busy = none ∧ (issued abc 0x06 [0x00]).pending = [⟨0x06, [0x00]⟩] ∧
    (0x06 : Byte) ∈ ([0x00, 0x03, 0x04, 0x05, 0x06] : List Byte) ∧ ([0x00] : List Byte) ≠ [] := by
  decide
theorem witness_MalformedSubmissionIsRefused_long :
    (issued abc 0x08 (List.replicate (2 ^ 64) 0)).busy = none ∧
    (issued abc 0x08 (List.replicate (2 ^ 64) 0)).pending = [⟨0x08, List.replicate (2 ^ 64) 0⟩] ∧
    (0x08 : Byte) ∈ ([0x01, 0x02, 0x07, 0x08] : List Byte) ∧
    2 ^ 64 ≤ (List.replicate (2 ^ 64) (0 : Byte)).length :=
  ⟨rfl, rfl, by decide, by rw [List.length_replicate]⟩
/-- The one hypothesis of the eight ResultOfSteps statements. -/
theorem witness_ResultOfSteps : (t1State initWords).xform.acc =
    ⟨0x67452301, 0xefcdab89, 0x98badcfe, 0x10325476⟩ := rfl

theorem witness_ResultOfSteps0To7 : (t1State initWords).xform.acc =
    ⟨0x67452301, 0xefcdab89, 0x98badcfe, 0x10325476⟩ := witness_ResultOfSteps
theorem witness_ResultOfSteps8To15 : (t1State initWords).xform.acc =
    ⟨0x67452301, 0xefcdab89, 0x98badcfe, 0x10325476⟩ := witness_ResultOfSteps
theorem witness_ResultOfSteps16To23 : (t1State initWords).xform.acc =
    ⟨0x67452301, 0xefcdab89, 0x98badcfe, 0x10325476⟩ := witness_ResultOfSteps
theorem witness_ResultOfSteps24To31 : (t1State initWords).xform.acc =
    ⟨0x67452301, 0xefcdab89, 0x98badcfe, 0x10325476⟩ := witness_ResultOfSteps
theorem witness_ResultOfSteps32To39 : (t1State initWords).xform.acc =
    ⟨0x67452301, 0xefcdab89, 0x98badcfe, 0x10325476⟩ := witness_ResultOfSteps
theorem witness_ResultOfSteps40To47 : (t1State initWords).xform.acc =
    ⟨0x67452301, 0xefcdab89, 0x98badcfe, 0x10325476⟩ := witness_ResultOfSteps
theorem witness_ResultOfSteps48To55 : (t1State initWords).xform.acc =
    ⟨0x67452301, 0xefcdab89, 0x98badcfe, 0x10325476⟩ := witness_ResultOfSteps
theorem witness_ResultOfSteps56To63 : (t1State initWords).xform.acc =
    ⟨0x67452301, 0xefcdab89, 0x98badcfe, 0x10325476⟩ := witness_ResultOfSteps
/-- One step of each residue of `i mod 4`, at the ends of the range. -/
theorem witness_StepWritesOneRegisterOnly :
    (xformAfter (exec (decodeStep 0) State.reset)).isSome = true ∧
    (xformAfter (exec (decodeStep 1) State.reset)).isSome = true ∧
    (xformAfter (exec (decodeStep 62) State.reset)).isSome = true ∧
    (xformAfter (exec (decodeStep 63) State.reset)).isSome = true := by decide +kernel
/-- The first and the last bit. -/
theorem witness_BitFunctionsBitByBit : (0 : Nat) < 32 ∧ (31 : Nat) < 32 := by decide
/-- The smallest and the largest amount. -/
theorem witness_RotationMovesBitsAndLosesNone : (0 < 1 ∧ 1 < 32) ∧ (0 < 31 ∧ 31 < 32) := by decide
theorem witness_MessageWordsAreLittleEndian :
    (bytesFrom 0 64).length = 64 ∧ ∃ t, exec (decodeStep 63) State.reset = .next t :=
  ⟨by decide, _, rfl⟩
theorem witness_FixedAndRotatingFormsAgree : (bytesFrom 0 64).length = 64 := by decide
theorem witness_SixtyFourStepsComputeTheTransform :
    (idle abc).busy = none ∧ (bytesFrom 0 64).length = 64 := by decide
/-- At both ends of the range of n. -/
theorem witness_ChainingStateChangesInOnePiece :
    (bytesFrom 0 64).length = 64 ∧ (0 : Nat) < 64 ∧ (63 : Nat) < 64 := by decide
theorem witness_ResultOfWrite : ([0xab] : List Byte).length < 2 ^ 64 := witness_operand_bound.2
theorem witness_ResultOfSum : ([] : List Byte).length < 2 ^ 64 := witness_operand_bound.1
theorem witness_EmptyWriteChangesNothing : (idle abc).inst.nx < 64 := by decide
/-- Nothing pending, and 63 bytes. -/
theorem witness_ShorterPathOfWriteAgrees :
    Instance.reset.nx < 64 ∧ (⟨initWords, bytesFrom 0 63, 63⟩ : Instance).nx < 64 := by decide
theorem witness_DigestOfAMessage :
    ([0x61] : List Byte).length < 2 ^ 61 ∧
    ({ idle abc with pending := [⟨0x00, []⟩, ⟨0x01, [0x61]⟩, ⟨0x02, []⟩] } : State).busy = none ∧
    ({ idle abc with pending := [⟨0x00, []⟩, ⟨0x01, [0x61]⟩, ⟨0x02, []⟩] } : State).pending =
      [⟨0x00, []⟩, ⟨0x01, [0x61]⟩, ⟨0x02, []⟩] := by decide
theorem witness_InstanceStandsForTheMessageWritten :
    ([[0x61], [], [0x62]] : List (List Byte)).flatten.length < 2 ^ 64 ∧
    ({ idle abc with pending := [⟨0x00, []⟩, ⟨0x01, [0x61]⟩, ⟨0x01, []⟩, ⟨0x01, [0x62]⟩] } :
      State).busy = none ∧
    ({ idle abc with pending := [⟨0x00, []⟩, ⟨0x01, [0x61]⟩, ⟨0x01, []⟩, ⟨0x01, [0x62]⟩] } :
      State).pending =
      ⟨0x00, []⟩ :: ([[0x61], [], [0x62]] : List (List Byte)).map (fun p => ⟨0x01, p⟩) := by decide
/-- Both sides of the boundary between one and two blocks, both ends, a zero and a zero count. -/
theorem witness_PaddedBufferShape :
    (bytesFrom 0 0).length ≤ 63 ∧ (bytesFrom 0 55).length ≤ 55 ∧ 55 < (bytesFrom 0 56).length ∧
    (bytesFrom 0 63).length ≤ 63 ∧ 3 < 4 ∧ 4 + 8 < (padded (bytesFrom 0 3) 3).length ∧
    (3 + 1 + 52) % 64 = 56 := by decide +kernel
theorem witness_LengthFieldIsTheBitCount :
    (0x1fffffffffffffff : DWord).toNat < 2 ^ 61 ∧ (0 : Nat) < 8 ∧ (7 : Nat) < 8 := by decide
theorem witness_FinalizeIsPadFoldExtract : (bytesFrom 0 63).length ≤ 63 := by decide
theorem witness_DigestIsLittleEndianWordAFirst : (0 : Nat) < 4 ∧ (3 : Nat) < 4 := by decide
theorem witness_ResultOfSerialize : (idle w6).inst.nx < 64 := by decide
/-- Nothing pending, and 63 bytes; the first and the last byte of a word and of the counter. -/
theorem witness_CheckpointLayout :
    Instance.reset.nx < 64 ∧ (⟨initWords, bytesFrom 0 63, 63⟩ : Instance).nx < 64 ∧
    (0 : Nat) < 4 ∧ (3 : Nat) < 4 ∧ (7 : Nat) < 8 := by decide
theorem witness_ResultOfAppendSerialize : ([0xff, 0xfe] : List Byte).length < 2 ^ 64 := by decide
/-- Each clause at the lengths where the clauses meet. -/
theorem witness_ResultOfRestore :
    k3.length < 2 ^ 64 ∧ (k3.take 2).length < 3 ∧ slice (k3.set 2 0x34) 0 3 ≠ [0x6d, 0x64, 0x35] ∧
    ((k3.take 3).length < 4 ∧ slice (k3.take 3) 0 3 = [0x6d, 0x64, 0x35]) ∧
    ((k3.take 4).length ≠ 92 ∧ slice (k3.take 4) 3 1 = [0x01]) ∧
    (k3.length = 92 ∧ slice k3 0 3 = [0x6d, 0x64, 0x35] ∧ slice k3 3 1 = [0x01]) := by decide +kernel
theorem witness_OnlyAnUnacceptableRestoreFails :
    (∃ t, exec (.restore []) (idle targetQ) = .next t ∧
      Answered (idle targetQ) t ⟨.invalidState, some .badTag, .none⟩) ∧
    ¬ Acceptable [] ∧ ∃ t, exec .new (idle targetQ) = .next t :=
  ⟨⟨_, rfl, rfl⟩, by decide, _, rfl⟩
theorem witness_FailingRestoreLeavesNoTrace :
    ¬ Acceptable (k3.take 91) ∧ isCommand (.sum []) = true := by decide +kernel
/-- Two acceptable operands that differ in a pad byte only, and one pending byte. -/
theorem witness_PadBytesAreIgnored :
    Acceptable k3 ∧ Acceptable (k3.set 83 0xee) ∧ 0 < (restoredInstance k3).nx ∧
    (∀ j, j < 92 → (j < 20 + (unbe64 k3 84).toNat % 64 ∨ 84 ≤ j) → (k3.set 83 0xee)[j]? = k3[j]?) := by
  decide +kernel
theorem witness_CheckpointRoundTrip : Invariant (idle w6) := by decide +kernel
theorem witness_SerializeAfterRestoreReturnsTheOperand :
    Acceptable k3 ∧
    (∀ j, j < 84 → 20 + (unbe64 k3 84).toNat % 64 ≤ j → k3[j]? = some 0x00) := by decide +kernel
theorem witness_ResumedDigestUsesTheTrueCount :
    Acceptable k3 ∧ ([0x64] : List Byte).length < 2 ^ 64 ∧
    ({ idle targetQ with pending := [⟨0x07, k3⟩, ⟨0x01, [0x64]⟩, ⟨0x02, []⟩] } : State).busy = none ∧
    ({ idle targetQ with pending := [⟨0x07, k3⟩, ⟨0x01, [0x64]⟩, ⟨0x02, []⟩] } : State).pending =
      [⟨0x07, k3⟩, ⟨0x01, [0x64]⟩, ⟨0x02, []⟩] := by decide +kernel
theorem witness_StepRunsTheDecodedInstruction_command :
    (issued abc 0x01 [0xab]).busy = none ∧ (issued abc 0x01 [0xab]).pending = [⟨0x01, [0xab]⟩] ∧
    decode (.cmd ⟨0x01, [0xab]⟩) = .ok (.write [0xab]) := ⟨rfl, rfl, rfl⟩
/-- The last step of an invocation, after which it ends, and the first. -/
theorem witness_StepRunsTheDecodedInstruction_step :
    (State.reset.withFetchWord 8 0x3f).busy = some .live ∧
    decode (.step (State.reset.withFetchWord 8 0x3f).xform.i) = .ok .step63 ∧
    (∃ t, exec .step63 (State.reset.withFetchWord 8 0x3f) = .next t) ∧
    (t1State initWords).busy = some .live ∧
    decode (.step (t1State initWords).xform.i) = .ok .step0 ∧
    ∃ t, exec .step0 (t1State initWords) = .next t :=
  ⟨rfl, rfl, ⟨_, rfl⟩, rfl, rfl, _, rfl⟩
theorem witness_IdleStepHoldsTheState : (idle abc).busy = none ∧ (idle abc).pending = [] := ⟨rfl, rfl⟩
theorem witness_InvariantKeptByEveryStep :
    Invariant (issued abc 0x00 []) ∧ ∃ t, step (issued abc 0x00 []) = .next t :=
  ⟨by decide, _, rfl⟩
/-- A command that changes the instance, and two that only read, run twice. -/
theorem witness_OnlyFourCommandsChangeTheInstance :
    (∃ t, exec .new (idle abc) = .next t ∧ t.inst ≠ (idle abc).inst) ∧
    (∃ t u, exec .serialize (idle abc) = .next t ∧ exec .serialize t = .next u) ∧
    ∃ t u, exec (.sum []) (idle abc) = .next t ∧ exec (.sum []) t = .next u :=
  ⟨⟨_, rfl, by decide⟩, ⟨_, _, rfl, rfl⟩, ⟨_, _, rfl, rfl⟩⟩
theorem witness_EveryCommandReturnsStateAndResponse :
    isCommand (.restore []) = true ∧ isCommand .step0 = false := by decide
theorem witness_StepStopsOnMalformedSubmissionsOnly :
    ∀ (c : Submission) (rest : List Submission), (issued abc 0x04 []).pending = c :: rest →
      c.operand.length < 2 ^ 64 ∧
        (c.operand ≠ [] → c.word ∉ ([0x00, 0x03, 0x04, 0x05, 0x06] : List Byte)) := by
  rintro c rest h
  cases h
  exact ⟨by decide, fun hne => absurd rfl hne⟩
/-- Two states that differ in the registers of the transform. -/
theorem witness_ScratchRegistersCannotBeObserved :
    SameToHost (issued abc 0x00 []) { issued abc 0x00 [] with xform := (t1State initWords).xform } ∧
    (issued abc 0x00 []).xform ≠ (t1State initWords).xform ∧
    ∃ t, step (issued abc 0x00 []) = .next t :=
  ⟨⟨rfl, rfl, rfl, rfl, rfl⟩, by decide +kernel, _, rfl⟩
theorem witness_NothingInFlightAfterACommand :
    (issued abc 0x00 []).busy = none ∧ ∃ t, step (issued abc 0x00 []) = .next t := ⟨rfl, _, rfl⟩
/-- A WRITE that completes no block, and a command that reads. -/
theorem witness_FrameOfTheCommands :
    isCommand (.write [0x64]) = true ∧ (idle abc).inst.nx + ([0x64] : List Byte).length < 64 ∧
    (∃ t, exec (.write [0x64]) (idle abc) = .next t) ∧ ∃ t, exec .blockSize (idle abc) = .next t :=
  ⟨rfl, by decide, ⟨_, rfl⟩, _, rfl⟩

end Sys2Proof.Tests
end

namespace Sys2Proof.Proofs

open Sys2Proof Sys2Proof.Machine

/-! ### The rotation, bit by bit (R14, R128) -/

/-- Bit `j` of the word goes to bit `(j + s) mod 32` of the rotated word (R14). -/
theorem getLsbD_rotl32_add_mod (x : Word) {s j : Nat} (hs : s < 32) (hj : j < 32) :
    (rotl32 x s).getLsbD ((j + s) % 32) = x.getLsbD j := by
  rw [rotl32_eq_rotateLeft x hs, BitVec.getLsbD_rotateLeft_of_le hs]
  by_cases hwrap : j + s < 32
  · have hmod : (j + s) % 32 = j + s := Nat.mod_eq_of_lt hwrap
    have hge : ¬ j + s < s := by omega
    simp [hmod, hge, hwrap]
  · have hmod : (j + s) % 32 = j + s - 32 := by omega
    have hlt : j + s - 32 < s := by omega
    have hback : 32 - s + (j + s - 32) = j := by omega
    simp [hmod, hlt, hback]

/-- Rotating by `s` and then by `32 - s` moves every bit once around the word (R128). -/
theorem rotl32_rotl32_sub (x : Word) {s : Nat} (hpos : 0 < s) (hs : s < 32) :
    rotl32 (rotl32 x s) (32 - s) = x := by
  apply BitVec.eq_of_getLsbD_eq
  intro j hj
  have hround : ((j + s) % 32 + (32 - s)) % 32 = j := by omega
  calc (rotl32 (rotl32 x s) (32 - s)).getLsbD j
      = (rotl32 (rotl32 x s) (32 - s)).getLsbD (((j + s) % 32 + (32 - s)) % 32) := by rw [hround]
    _ = (rotl32 x s).getLsbD ((j + s) % 32) :=
        getLsbD_rotl32_add_mod _ (by omega) (Nat.mod_lt _ (by decide))
    _ = x.getLsbD j := getLsbD_rotl32_add_mod x hs hj

/-- Settles O17: the movement of one bit, and the inverse from that movement applied twice. -/
theorem rotationMovesBitsAndLosesNone : Obligations.RotationMovesBitsAndLosesNone :=
  fun x _ hpos hs =>
    ⟨fun _ hj => getLsbD_rotl32_add_mod x hs hj, rotl32_rotl32_sub x hpos hs⟩

/-! ### What a step runs (R10, R26, R63, R85) -/

/-- With nothing in flight a step is the meaning of the first command of the queue: a command always
gives a next state (R224), and the step is that state. -/
theorem step_eq_exec_of_command {s : State} {c : Submission} {rest : List Submission} {i : Instr}
    (hb : s.busy = none) (hp : s.pending = c :: rest) (hd : decode (.cmd c) = .ok i) :
    step s = exec i { s with pending := rest } := by
  obtain ⟨t, _, he, -⟩ := exec_command i { s with pending := rest } (isCommand_of_decode hd)
  rw [he]
  exact step_of_command hb hp hd he

/-- Inside an invocation a step is the meaning of the selected step, and then the advance. -/
theorem step_eq_advance_of_exec {s t : State} {c : Caller} {i : Instr} (hb : s.busy = some c)
    (hd : decode (.step s.xform.i) = .ok i) (he : exec i s = .next t) :
    step s = .next (advance c t) := by
  cases hd
  rw [exec_of_index] at he
  cases he
  exact step_of_busy hb

/-- Settles O49: an idle step and a step inside an invocation, each by its equation. -/
theorem stepRunsTheDecodedInstruction : Obligations.StepRunsTheDecodedInstruction :=
  ⟨fun _ _ _ _ => step_eq_exec_of_command, fun _ _ _ _ => step_eq_advance_of_exec⟩

end Sys2Proof.Proofs

namespace Sys2Proof.Proofs

open Sys2Proof Sys2Proof.Machine

/-! ### What a command can do to the instance and to the scratch registers (R37) -/

/-- The outcomes of the nine commands: NEW and RESET put the instance in the reset state, WRITE and
RESTORE of an acceptable operand replace it, SUM leaves it, and every other one only answers. -/
theorem exec_command_cases {i : Instr} {s t : State} (hc : isCommand i = true)
    (h : exec i s = .next t) :
    ((i = .new ∨ i = .reset) ∧ t = respondOk .none (setInstance Instance.reset s)) ∨
    (∃ p, i = .write p ∧ t.inst = writeInstance p s.inst ∧ t.dup = s.dup ∧
      (s.inst.nx + p.length < 64 → t.xform = s.xform ∧ t.freeCount = s.freeCount)) ∨
    (∃ pre, i = .sum pre ∧ t.inst = s.inst) ∨
    (∃ ck, i = .restore ck ∧ Acceptable ck ∧
      t = respondOk .none (setInstance (restoredInstance ck) s)) ∨
    ∃ r, t = respond r s := by
  cases i
  case new => cases h; exact .inl ⟨.inl rfl, rfl⟩
  case reset => cases h; exact .inl ⟨.inr rfl, rfl⟩
  case write p =>
    obtain ⟨u, hu, hinst, -, hdup, -, -, hscratch⟩ := exec_write_next p s
    cases h.symm.trans hu
    exact .inr (.inl ⟨p, rfl, hinst, hdup, hscratch⟩)
  case sum pre => cases h; exact .inr (.inr (.inl ⟨pre, rfl, rfl⟩))
  case restore ck =>
    by_cases hck : Acceptable ck
    · cases h.symm.trans (exec_restore_acceptable s hck)
      exact .inr (.inr (.inr (.inl ⟨ck, rfl, hck, rfl⟩)))
    · obtain ⟨c, hexec⟩ := exec_restore_unacceptable hck
      cases h.symm.trans (hexec s)
      exact .inr (.inr (.inr (.inr ⟨_, rfl⟩)))
  case blockSize | digestSize | serialize | appendSerialize =>
    cases h; exact .inr (.inr (.inr (.inr ⟨_, rfl⟩)))
  all_goals exact nomatch hc

/-! ### The invariants (I-a) and (I-b) (R36) -/

theorem reset_inv : Instance.reset.Inv := by decide

/-- The counter's wrap does not matter modulo 64, because 64 divides 2^64 (R30, R160). -/
theorem writeInstance_inv {m : Instance} (p : List Byte) (h : m.Inv) : (writeInstance p m).Inv := by
  obtain ⟨-, hlen⟩ := h
  have hnx := writeInstance_nx p m
  have hcount : (writeInstance p m).len.toNat = (m.len.toNat + p.length) % 2 ^ 64 :=
    addLen_toNat m.len p.length
  constructor <;> omega

/-- RESTORE trims the buffer to the counter it read (R198). -/
theorem restoredInstance_inv {ck : List Byte} (h : Acceptable ck) : (restoredInstance ck).Inv := by
  have hnx : (restoredInstance ck).nx = (restoredInstance ck).len.toNat % 64 :=
    restoredInstance_nx h.1
  exact ⟨by omega, hnx⟩

theorem exec_command_inv {i : Instr} {s t : State} (hc : isCommand i = true)
    (h : exec i s = .next t) (hs : Invariant s) : Invariant t := by
  obtain ⟨-, rfl⟩ | ⟨p, -, hinst, -⟩ | ⟨-, -, hinst⟩ | ⟨ck, -, hck, rfl⟩ | ⟨r, rfl⟩ :=
    exec_command_cases hc h
  · exact reset_inv
  · simpa only [Invariant, hinst] using writeInstance_inv p hs
  · simpa only [Invariant, hinst] using hs
  · exact restoredInstance_inv hck
  · exact hs

/-- The end of a step of an invocation may change `H`, never the buffer (R26, R123). -/
@[simp] theorem advance_inst_buf (c : Caller) (s : State) : (advance c s).inst.buf = s.inst.buf := by
  unfold advance; split <;> simp

@[simp] theorem advance_inst_len (c : Caller) (s : State) : (advance c s).inst.len = s.inst.len := by
  unfold advance; split <;> simp

theorem advance_invariant (c : Caller) (s : State) : Invariant (advance c s) ↔ Invariant s := by
  simp only [Invariant, Instance.Inv, Instance.nx, advance_inst_buf, advance_inst_len]

/-- Settles O51: by the ways a step can give a next state; only a command changes the buffer or the
counter. -/
theorem invariantKeptByEveryStep : Obligations.InvariantKeptByEveryStep := by
  intro s t hs h
  obtain ⟨-, -, rfl⟩ | ⟨c, rest, i, -, -, hd, he⟩ | ⟨c, rest, -, -, -, rfl⟩ | ⟨c, u, -, he, rfl⟩ :=
    step_cases h
  · exact hs
  · exact exec_command_inv (isCommand_of_decode hd) he hs
  · exact hs
  · rw [exec_of_index] at he
    cases he
    exact (advance_invariant c _).2 hs

/-- Settles O52: the instance at power-on is the reset instance. -/
theorem invariantHoldsAtReset : Obligations.InvariantHoldsAtReset := reset_inv

/-- Settles O25: the reset instance field by field, and NEW and RESET run in any state. -/
theorem powerOnNewAndResetAgree : Obligations.PowerOnNewAndResetAgree :=
  ⟨rfl, rfl, rfl, rfl, fun _ => ⟨_, _, rfl, rfl, rfl, rfl⟩⟩

/-! ### Nothing in flight between commands, and the frame of the commands (R35, R37) -/

/-- No command changes what is in flight, and none touches the queue. -/
theorem exec_command_queue {i : Instr} {s t : State} (hc : isCommand i = true)
    (h : exec i s = .next t) : t.pending = s.pending ∧ t.busy = s.busy := by
  obtain ⟨u, r, hu, -, hpending, hbusy⟩ := exec_command i s hc
  cases h.symm.trans hu
  exact ⟨hpending, hbusy⟩

/-- Settles O57: by the ways a step can give a next state; none of the idle ones begins an
invocation. -/
theorem nothingInFlightAfterACommand : Obligations.NothingInFlightAfterACommand := by
  intro s t hb h
  obtain ⟨-, -, rfl⟩ | ⟨c, rest, i, -, -, hd, he⟩ | ⟨c, rest, -, -, -, rfl⟩ | ⟨c, u, hbusy, -⟩ :=
    step_cases h
  · exact hb
  · exact (exec_command_queue (isCommand_of_decode hd) he).2.trans hb
  · exact hb
  · exact nomatch hb.symm.trans hbusy

/-- Settles O58: the queue and what is in flight for all nine commands at once, the rest outcome by
outcome. -/
theorem frameOfTheCommands : Obligations.FrameOfTheCommands := by
  intro i s t hc h
  obtain ⟨hpending, hbusy⟩ := exec_command_queue hc h
  refine ⟨hpending, hbusy, ?_⟩
  obtain ⟨hi, rfl⟩ | ⟨p, rfl, -, hdup, hscratch⟩ | ⟨pre, rfl, hinst⟩ | ⟨ck, rfl, -, rfl⟩ | ⟨r, rfl⟩ :=
    exec_command_cases hc h
  · exact ⟨fun _ => rfl, fun _ _ => ⟨rfl, rfl⟩,
      fun hnew hreset => absurd hi (by simp [hnew, hreset])⟩
  · exact ⟨fun _ => hdup, fun _ hshort => hscratch (hshort p rfl),
      fun _ _ hwrite => absurd rfl (hwrite p)⟩
  · refine ⟨fun hsum => absurd rfl (hsum pre), fun hsum => absurd rfl (hsum pre), fun _ _ _ _ => ?_⟩
    rw [hinst]
    exact ⟨rfl, rfl, fun _ => rfl⟩
  · exact ⟨fun _ => rfl, fun _ _ => ⟨rfl, rfl⟩, fun _ _ _ hrestore => absurd rfl (hrestore ck)⟩
  · exact ⟨fun _ => rfl, fun _ _ => ⟨rfl, rfl⟩, fun _ _ _ _ => ⟨rfl, rfl, fun _ => rfl⟩⟩

/-! ### What a host sees depends on the instance alone (R23, R24, R26, R34) -/

/-- The instance a command leaves and the response it gives are functions of the instance it finds:
they are chosen before the rest of the state. -/
theorem exec_command_of_inst (i : Instr) (m : Instance) (hc : isCommand i = true) :
    ∃ m' r, ∀ s : State, s.inst = m →
      ∃ t, exec i s = .next t ∧ t.inst = m' ∧ Answered s t r := by
  cases i
  case new | reset => exact ⟨Instance.reset, okResponse .none, fun _ _ => ⟨_, rfl, rfl, rfl⟩⟩
  case write p =>
    refine ⟨writeInstance p m, okResponse .none, ?_⟩
    rintro s rfl
    obtain ⟨t, ht, hinst, hresp, -⟩ := exec_write_next p s
    exact ⟨t, ht, hinst, hresp⟩
  case sum pre =>
    refine ⟨m, okResponse (.bytes (pre ++ finalize m.h m.buf m.len)), ?_⟩
    rintro s rfl
    obtain ⟨t, ht, hinst, hresp, -⟩ := exec_sum_next pre s
    exact ⟨t, ht, hinst, hresp⟩
  case blockSize =>
    exact ⟨m, okResponse (.number Config.blockSize), fun _ hs => ⟨_, rfl, hs, rfl⟩⟩
  case digestSize =>
    exact ⟨m, okResponse (.number Config.digestSize), fun _ hs => ⟨_, rfl, hs, rfl⟩⟩
  case serialize =>
    refine ⟨m, okResponse (.bytes (checkpoint m)), ?_⟩
    rintro s rfl
    exact ⟨_, rfl, rfl, rfl⟩
  case appendSerialize buffer =>
    refine ⟨m, okResponse (.bytes (buffer ++ checkpoint m)), ?_⟩
    rintro s rfl
    exact ⟨_, rfl, rfl, rfl⟩
  case restore ck =>
    by_cases hck : Acceptable ck
    · exact ⟨restoredInstance ck, okResponse .none,
        fun s _ => ⟨_, exec_restore_acceptable s hck, rfl, rfl⟩⟩
    · obtain ⟨c, hexec⟩ := exec_restore_unacceptable hck
      exact ⟨m, ⟨.invalidState, some c, .none⟩, fun s hs => ⟨_, hexec s, hs, rfl⟩⟩
  all_goals exact nomatch hc

theorem exec_command_sameToHost {i : Instr} {s s' t : State} (hc : isCommand i = true)
    (hsame : SameToHost s s') (h : exec i s = .next t) :
    ∃ t', exec i s' = .next t' ∧ SameToHost t t' := by
  obtain ⟨hinst, hpending, hresp, hb, hb'⟩ := hsame
  obtain ⟨m, r, hseen⟩ := exec_command_of_inst i s.inst hc
  obtain ⟨u, hu, huInst, huResp⟩ := hseen s rfl
  cases h.symm.trans hu
  obtain ⟨t', ht', htInst', htResp'⟩ := hseen s' hinst.symm
  obtain ⟨hp, hbt⟩ := exec_command_queue hc h
  obtain ⟨hp', hbt'⟩ := exec_command_queue hc ht'
  exact ⟨t', ht', huInst.trans htInst'.symm, by rw [hp, hp', hpending],
    by rw [huResp, htResp', hresp], hbt.trans hb, hbt'.trans hb'⟩

/-- With nothing to run the state is held (R237). -/
theorem step_of_idle {s : State} (hb : s.busy = none) (hp : s.pending = []) : step s = .next s := by
  simp only [step, fetch, hb, hp]

/-- A reserved word at the head of the queue is taken and answered (R91). -/
theorem step_of_reserved {s : State} {c : Submission} {rest : List Submission}
    (hb : s.busy = none) (hp : s.pending = c :: rest)
    (hd : decode (.cmd c) = .error .reservedWord) :
    step s = .next (badCommand { s with pending := rest }) := by
  simp only [step, fetch, hb, hp, hd, consume_of_idle hb hp]

/-- Settles O56: the second state takes the same kind of step, and a command's effect is a function
of the instance they share. -/
theorem scratchRegistersCannotBeObserved : Obligations.ScratchRegistersCannotBeObserved := by
  intro s s' t hsame h
  obtain ⟨hinst, hpending, hresp, hb, hb'⟩ := hsame
  obtain ⟨-, hp, rfl⟩ | ⟨c, rest, i, -, hp, hd, he⟩ | ⟨c, rest, -, hp, hd, rfl⟩ | ⟨c, u, hbusy, -⟩ :=
    step_cases h
  · exact ⟨s', step_of_idle hb' (hpending ▸ hp), hinst, hpending, hresp, hb, hb'⟩
  · have htaken : SameToHost { s with pending := rest } { s' with pending := rest } :=
      ⟨hinst, rfl, hresp, hb, hb'⟩
    obtain ⟨t', ht', hsame'⟩ := exec_command_sameToHost (isCommand_of_decode hd) htaken he
    exact ⟨t', step_of_command hb' (hpending ▸ hp) hd ht', hsame'⟩
  · exact ⟨_, step_of_reserved hb' (hpending ▸ hp) hd, hinst, rfl,
      by simp only [badCommand_eq, hresp], hb, hb'⟩
  · exact nomatch hb.symm.trans hbusy

/-! ### A transform invocation step by step (R26, R59, R113, R125) -/

/-- The registers of an invocation on `blk` after its first `n` steps: the step index counts them. -/
def regsAfter (h : Words4) (blk : List Byte) (n : Nat) : XformRegs :=
  { (xsteps.take n).foldl (fun u f => f u) (loadXform h blk) with i := BitVec.ofNat 6 n }

section RegsAfter
variable (h : Words4) (blk : List Byte) {n : Nat}

theorem regsAfter_i_toNat (hn : n < 64) : (regsAfter h blk n).i.toNat = n :=
  Nat.mod_eq_of_lt hn

theorem regsAfter_succ (hn : n < 64) :
    regsAfter h blk (n + 1) =
      { (xsteps.getD n id) (regsAfter h blk n) with i := (regsAfter h blk n).i + 1 } := by
  have hn' : n < xsteps.length := hn
  have hlast : (xsteps.take (n + 1)).foldl (fun u f => f u) (loadXform h blk) =
      (xsteps.getD n id) ((xsteps.take n).foldl (fun u f => f u) (loadXform h blk)) := by
    rw [List.take_succ_eq_append_getElem hn', List.foldl_append, List.getD_eq_getElem _ _ hn']
    rfl
  rw [regsAfter, regsAfter, xsteps_with_index, hlast, BitVec.ofNat_add]
  rfl

theorem regsAfter_x (hn : n ≤ 64) : (regsAfter h blk n).x = msgWords blk := by
  induction n with
  | zero => rfl
  | succ n ih => rw [regsAfter_succ h blk hn, ← ih (by omega)]; exact (xsteps_keep _ _).1

/-- `Transform` adds what the 64 steps make of the registers (R123, R125). -/
theorem transform_eq_addWords_regsAfter : transform h blk = addWords h (regsAfter h blk 64).acc := by
  rw [regsAfter, List.take_of_length_le (Nat.le_of_eq xsteps_length)]
  rfl

end RegsAfter

/-- The machine inside an invocation for `c`, with the registers of the transform at `u` and the
rest as in `s`. -/
def duringInvocation (c : Caller) (u : XformRegs) (s : State) : State :=
  { s with xform := u, busy := some c }

section DuringInvocation
variable (c : Caller) (u : XformRegs) (s : State)

theorem beginTransform_eq_duringInvocation (blk : List Byte) :
    beginTransform c blk s = duringInvocation c (regsAfter (chaining c s) blk 0) s := rfl

theorem chaining_duringInvocation : chaining c (duringInvocation c u s) = chaining c s := by
  cases c <;> rfl

theorem step_duringInvocation :
    step (duringInvocation c u s) =
      .next (advance c (duringInvocation c ((xsteps.getD u.i.toNat id) u) s)) :=
  step_of_busy rfl

variable {u}

/-- Before the last step the advance only counts (R26). -/
theorem advance_duringInvocation (h : u.i ≠ 63) :
    advance c (duringInvocation c u s) = duringInvocation c { u with i := u.i + 1 } s :=
  if_neg h

/-- After the last step the invocation ends (R26, R123). -/
theorem advance_duringInvocation_last (h : u.i = 63) :
    advance c (duringInvocation c u s) = finishTransform c (duringInvocation c u s) :=
  if_pos h

end DuringInvocation

section Invocation
variable (c : Caller) (blk : List Byte) (s : State) {n : Nat}

theorem step_regsAfter (h : Words4) (hn : n < 63) :
    step (duringInvocation c (regsAfter h blk n) s) =
      .next (duringInvocation c (regsAfter h blk (n + 1)) s) := by
  have hi := regsAfter_i_toNat h blk (n := n) (by omega)
  have hkeep := (xsteps_keep n (regsAfter h blk n)).2
  have hne : ((xsteps.getD n id) (regsAfter h blk n)).i ≠ 63 := by
    rw [hkeep]
    intro heq
    rw [heq] at hi
    exact absurd hi (Nat.ne_of_gt hn)
  rw [step_duringInvocation, hi, advance_duringInvocation c s hne, regsAfter_succ h blk (by omega),
    hkeep]

theorem runN_beginTransform (hn : n < 64) :
    runN n (beginTransform c blk s) =
      .next (duringInvocation c (regsAfter (chaining c s) blk n) s) := by
  induction n with
  | zero => exact congrArg Host.Outcome.next (beginTransform_eq_duringInvocation c s blk)
  | succ n ih => exact runN_last n (ih (by omega)) (step_regsAfter c blk s _ (by omega))

/-- The last step of an invocation: the registers the 64 steps leave, but for the index, are those
that are added to the chaining state. -/
theorem step_regsAfter_last (h : Words4) :
    ∃ u, u.acc = (regsAfter h blk 64).acc ∧
      step (duringInvocation c (regsAfter h blk 63) s) =
        .next (finishTransform c (duringInvocation c u s)) := by
  have hkeep := (xsteps_keep 63 (regsAfter h blk 63)).2
  refine ⟨(xsteps.getD 63 id) (regsAfter h blk 63), ?_, ?_⟩
  · exact (congrArg XformRegs.acc (regsAfter_succ h blk (n := 63) (by omega))).symm
  · rw [step_duringInvocation, regsAfter_i_toNat h blk (by omega),
      advance_duringInvocation_last c s (hkeep.trans rfl)]

end Invocation

/-- Settles O23: the state after `n` steps in closed form. -/
theorem chainingStateChangesInOnePiece : Obligations.ChainingStateChangesInOnePiece :=
  fun c s blk _ _ hn =>
    ⟨_, runN_beginTransform c blk s hn, rfl, regsAfter_i_toNat _ blk hn,
      regsAfter_x _ blk (Nat.le_of_lt hn), rfl, rfl, rfl, rfl⟩

section FinishTransform
variable (c : Caller) (s : State)
@[simp] theorem finishTransform_dup_buf : (finishTransform c s).dup.buf = s.dup.buf := by
  cases c <;> rfl
@[simp] theorem finishTransform_dup_len : (finishTransform c s).dup.len = s.dup.len := by
  cases c <;> rfl
/-- An invocation on the duplicate ends without touching the instance (R34, R178). -/
@[simp] theorem finishTransform_dup_inst : (finishTransform .dup s).inst = s.inst := rfl
@[simp] theorem finishTransform_live_dup : (finishTransform .live s).dup = s.dup := rfl
end FinishTransform

/-- Settles O22: 63 steps that only count, and the last, which ends the invocation. -/
theorem sixtyFourStepsComputeTheTransform : Obligations.SixtyFourStepsComputeTheTransform := by
  intro c s blk _ _
  obtain ⟨u, hacc, hlast⟩ := step_regsAfter_last c blk s (chaining c s)
  have hchain : chaining c (finishTransform c (duringInvocation c u s)) =
      transform (chaining c s) blk := by
    rw [chaining_finishTransform, chaining_duringInvocation, transform_eq_addWords_regsAfter, ← hacc]
    rfl
  refine ⟨_, runN_last 63 (runN_beginTransform c blk s (by omega)) hlast, hchain, rfl, ?_, ?_, ?_⟩
  · rintro rfl; exact finishTransform_dup_inst _
  · rintro rfl; exact finishTransform_live_dup _
  · simp [duringInvocation]

/-! ### A message written in pieces (R36, R156, R159) -/

/-- Nothing written leaves the instance, when no complete block is pending (R159). -/
theorem writeInstance_nil {m : Instance} (h : m.nx < 64) : writeInstance [] m = m := by
  have hq : m.buf.length / 64 = 0 := Nat.div_eq_of_lt h
  simp [writeInstance, Config.blockSize, hq, absorb]

/-- Writing in two pieces is writing once: the blocks of the first piece are the first of the
whole, and what it leaves stands before the second (R156). -/
theorem writeInstance_append (p q : List Byte) (m : Instance) :
    writeInstance q (writeInstance p m) = writeInstance (p ++ q) m := by
  have hblocks : (m.buf ++ (p ++ q)).length / 64 =
      (m.buf ++ p).length / 64 +
        ((absorb ((m.buf ++ p).length / 64) m.h (m.buf ++ p)).2 ++ q).length / 64 := by
    rw [absorb_rest]
    simp only [List.length_append, List.length_drop]
    omega
  have hlen : (p ++ q).length = p.length + q.length := List.length_append
  have habsorb := absorb_append ((m.buf ++ p).length / 64) m.h (m.buf ++ p) q (by omega)
  rw [List.append_assoc] at habsorb
  simp only [writeInstance, Config.blockSize, addLen_addLen, hlen, hblocks, absorb_add, habsorb]

/-- Running the WRITEs of `ps` is one write of all their bytes, to an instance with fewer than 64
bytes pending. -/
theorem runN_writes (ps : List (List Byte)) (s : State) (hlen : ps.flatten.length < 2 ^ 64)
    (hnx : s.inst.nx < 64) (hb : s.busy = none) (hp : s.pending = ps.map (fun p => ⟨0x01, p⟩)) :
    ∃ t, runN ps.length s = .next t ∧ t.inst = writeInstance ps.flatten s.inst := by
  induction ps generalizing s with
  | nil => exact ⟨s, rfl, (writeInstance_nil hnx).symm⟩
  | cons p ps ih =>
    rw [List.flatten_cons, List.length_append] at hlen
    obtain ⟨u, hu, hinst, -, -, hbusy, hpending, -⟩ :=
      exec_write_next p { s with pending := ps.map (fun p => ⟨0x01, p⟩) }
    have hstep : step s = .next u := step_of_command hb hp (decode_write (by omega)) hu
    have hnx' : u.inst.nx < 64 := by
      rw [hinst, writeInstance_nx]
      exact Nat.mod_lt _ (by omega)
    obtain ⟨t, ht, htInst⟩ := ih u (by omega) hnx' (hbusy.trans hb) hpending
    refine ⟨t, (runN_step _ hstep).trans ht, ?_⟩
    rw [htInst, hinst, writeInstance_append, List.flatten_cons]

/-- The instance that the message `M` written to the reset instance gives ((I-c) of R36). -/
theorem writeInstance_reset (M : List Byte) :
    writeInstance M Instance.reset =
      { h := foldBlocks Config.init M
        buf := M.drop (M.length - M.length % 64)
        len := addLen 0 M.length } := by
  have hrest : 64 * (M.length / 64) = M.length - M.length % 64 := by omega
  rw [writeInstance_eq]
  simp [Instance.reset, hrest]

/-- Settles O34: NEW gives the reset instance, and the WRITEs are one write of the message to it. -/
theorem instanceStandsForTheMessageWritten : Obligations.InstanceStandsForTheMessageWritten := by
  intro ps s hlen hb hp
  obtain ⟨t, ht, hinst⟩ := runN_writes ps
    (respondOk .none (setInstance Instance.reset
      { s with pending := ps.map (fun p => ⟨0x01, p⟩) })) hlen reset_inv.1 hb rfl
  refine ⟨t, (runN_step _ (step_of_command hb hp rfl rfl)).trans ht, ?_⟩
  rw [respondOk_inst, setInstance_inst, writeInstance_reset] at hinst
  have hcount : (addLen 0 ps.flatten.length).toNat = ps.flatten.length := by
    rw [addLen_toNat, show (0 : DWord).toNat = 0 from rfl, Nat.zero_add, Nat.mod_eq_of_lt hlen]
  rw [hinst]
  exact ⟨hcount, rfl, rfl⟩

end Sys2Proof.Proofs

namespace Sys2Proof.Proofs

open Sys2Proof Sys2Proof.Machine

/-! ### Which instructions change the instance, and which only read it (R60) -/

/-- The decoder reads a step index back as the step it was encoded from (R85). -/
theorem decodeStep_of_encode {i : Instr} {k : BitVec 6} (h : encode i = .step k) :
    decodeStep k = i := by
  cases i <;> cases h <;> rfl

/-- Every instruction that is no command is the step of some index (R80, R85). -/
theorem exists_decodeStep_of_not_isCommand {i : Instr} (hc : isCommand i = false) :
    ∃ k, decodeStep k = i := by
  unfold isCommand at hc
  split at hc
  · exact nomatch hc
  · next k henc => exact ⟨k, decodeStep_of_encode henc⟩

/-- A step works on the registers of the transform alone (R110). -/
theorem exec_inst_of_not_isCommand {i : Instr} {s t : State} (hc : isCommand i = false)
    (h : exec i s = .next t) : t.inst = s.inst := by
  obtain ⟨k, rfl⟩ := exists_decodeStep_of_not_isCommand hc
  rw [exec_of_index] at h
  cases h
  rfl

theorem exec_changes_inst {i : Instr} {s t : State} (h : exec i s = .next t)
    (hne : t.inst ≠ s.inst) :
    i = .new ∨ i = .reset ∨ (∃ p, i = .write p) ∨ ∃ ck, i = .restore ck ∧ Acceptable ck := by
  cases hc : isCommand i with
  | false => exact absurd (exec_inst_of_not_isCommand hc h) hne
  | true =>
    obtain ⟨hi, -⟩ | ⟨p, hi, -⟩ | ⟨-, -, hinst⟩ | ⟨ck, hi, hck, -⟩ | ⟨r, rfl⟩ :=
      exec_command_cases hc h
    · exact hi.imp_right .inl
    · exact .inr (.inr (.inl ⟨p, hi⟩))
    · exact absurd hinst hne
    · exact .inr (.inr (.inr ⟨ck, hi, hck⟩))
    · exact absurd (respond_inst r s) hne

/-- A command that leaves the instance as it was gives the same response when it is issued again:
its response is a function of the instance. -/
theorem exec_twice_same_response {i : Instr} {s t u : State} (hc : isCommand i = true)
    (hst : exec i s = .next t) (htu : exec i t = .next u) (hinst : t.inst = s.inst) :
    ∃ r, Answered s t r ∧ Answered t u r := by
  obtain ⟨_, r, hseen⟩ := exec_command_of_inst i s.inst hc
  obtain ⟨t', ht', -, hr⟩ := hseen s rfl
  obtain ⟨u', hu', -, hr'⟩ := hseen t hinst
  cases hst.symm.trans ht'
  cases htu.symm.trans hu'
  exact ⟨r, hr, hr'⟩

/-- Settles O53: by the outcomes of the commands and of the steps; a command that only reads answers
the same twice, because it leaves the instance its answer is made from. -/
theorem onlyFourCommandsChangeTheInstance : Obligations.OnlyFourCommandsChangeTheInstance := by
  refine ⟨fun i s t => exec_changes_inst, fun i s t u hst htu hread => ?_⟩
  have hc : isCommand i = true := by
    obtain rfl | rfl | rfl | ⟨p, rfl⟩ | ⟨b, rfl⟩ := hread <;> rfl
  have hinst : t.inst = s.inst := by
    by_contra hne
    obtain rfl | rfl | ⟨p, rfl⟩ | ⟨ck, rfl, -⟩ := exec_changes_inst hst hne <;> simp at hread
  exact exec_twice_same_response hc hst htu hinst

end Sys2Proof.Proofs

namespace Sys2Proof.Proofs

open Sys2Proof Sys2Proof.Machine

/-! ### The command words that take no operand, and those that take one (R82) -/

/-- The words of NEW, RESET, BLOCKSIZE, DIGESTSIZE and SERIALIZE. -/
def plainWords : List Byte := [0x00, 0x03, 0x04, 0x05, 0x06]

/-- The words of WRITE, SUM, RESTORE and APPENDSERIALIZE. -/
def operandWords : List Byte := [0x01, 0x02, 0x07, 0x08]

/-- The words of R82 are 0x00 to 0x08; every other one is reserved (R91). -/
theorem word_cases (w : Byte) : w ∈ plainWords ∨ w ∈ operandWords ∨ 9 ≤ w.toNat := by
  simp only [plainWords, operandWords, List.mem_cons, List.not_mem_nil, or_false, ← BitVec.toNat_inj,
    BitVec.ofNat_eq_ofNat, BitVec.toNat_ofNat]
  omega

/-- A word that takes no operand is the encoding of one instruction, with nothing after it. -/
theorem decodeCmd_of_mem_plainWords {w : Byte} (h : w ∈ plainWords) :
    ∃ i, encode i = .cmd ⟨w, []⟩ ∧ WellFormed i ∧ ∀ p, decodeCmd ⟨w, p⟩ = plainCommand i p := by
  simp only [plainWords, List.mem_cons, List.not_mem_nil, or_false] at h
  obtain rfl | rfl | rfl | rfl | rfl := h
  · exact ⟨.new, rfl, rfl, fun _ => decodeCmd_of_lt _ 0 rfl (by decide)⟩
  · exact ⟨.reset, rfl, rfl, fun _ => decodeCmd_of_lt _ 3 rfl (by decide)⟩
  · exact ⟨.blockSize, rfl, rfl, fun _ => decodeCmd_of_lt _ 4 rfl (by decide)⟩
  · exact ⟨.digestSize, rfl, rfl, fun _ => decodeCmd_of_lt _ 5 rfl (by decide)⟩
  · exact ⟨.serialize, rfl, rfl, fun _ => decodeCmd_of_lt _ 6 rfl (by decide)⟩

/-- A word that takes an operand is the encoding of one instruction for each operand, well formed
when the operand is short enough. -/
theorem decodeCmd_of_mem_operandWords {w : Byte} (h : w ∈ operandWords) :
    ∃ mk : List Byte → Instr, ∀ p, encode (mk p) = .cmd ⟨w, p⟩ ∧
      (mk p).wellFormed = operandFits p ∧ decodeCmd ⟨w, p⟩ = operandCommand mk p := by
  simp only [operandWords, List.mem_cons, List.not_mem_nil, or_false] at h
  obtain rfl | rfl | rfl | rfl := h
  · exact ⟨.write, fun _ => ⟨rfl, rfl, decodeCmd_of_lt _ 1 rfl (by decide)⟩⟩
  · exact ⟨.sum, fun _ => ⟨rfl, rfl, decodeCmd_of_lt _ 2 rfl (by decide)⟩⟩
  · exact ⟨.restore, fun _ => ⟨rfl, rfl, decodeCmd_of_lt _ 7 rfl (by decide)⟩⟩
  · exact ⟨.appendSerialize, fun _ => ⟨rfl, rfl, decodeCmd_of_lt _ 8 rfl (by decide)⟩⟩

theorem plainCommand_eq_ok {i j : Instr} {p : List Byte} :
    plainCommand i p = .ok j ↔ p = [] ∧ i = j := by
  unfold plainCommand
  split <;> simp [*]

theorem operandCommand_eq_ok {mk : List Byte → Instr} {p : List Byte} {j : Instr} :
    operandCommand mk p = .ok j ↔ operandFits p = true ∧ mk p = j := by
  unfold operandCommand
  split <;> simp [*]

theorem plainCommand_of_ne_nil (i : Instr) {p : List Byte} (h : p ≠ []) :
    plainCommand i p = .error .strayOperand := if_neg h

theorem operandCommand_of_le_length (mk : List Byte → Instr) {p : List Byte}
    (h : 2 ^ 64 ≤ p.length) : operandCommand mk p = .error .operandTooLong := by
  rw [operandCommand, (operandFits_false_iff p).2 h]
  rfl

/-! ### The decoder and the encoder are inverse to each other (R81 to R85, R94) -/

/-- The four commands with an operand read it back because it is short enough; every other
instruction has one encoding. -/
theorem decode_encode {i : Instr} (h : WellFormed i) : decode (encode i) = .ok i := by
  cases i
  case write p => exact decode_write ((operandFits_iff p).1 h)
  case sum pre => exact decode_sum ((operandFits_iff pre).1 h)
  case restore ck => exact decode_restore ((operandFits_iff ck).1 h)
  case appendSerialize b => exact decode_appendSerialize ((operandFits_iff b).1 h)
  all_goals rfl

/-- Settles O2: the four commands with an operand by their decoding, the rest by evaluation. -/
theorem decodeOfEncodeIsTheInstruction : Obligations.DecodeOfEncodeIsTheInstruction :=
  fun _ => decode_encode

/-- Each of the 64 step indices is the one its step is encoded with (R85, R93). -/
theorem encode_decodeStep (k : BitVec 6) : encode (decodeStep k) = .step k := by
  revert k
  decide

theorem wellFormed_decodeStep (k : BitVec 6) : WellFormed (decodeStep k) := by
  revert k
  decide

/-- A submission that decodes has a word of R82 and the operand that word allows (R82, R83). -/
theorem encode_of_decodeCmd {c : Submission} {i : Instr} (h : decodeCmd c = .ok i) :
    encode i = .cmd c ∧ WellFormed i := by
  obtain ⟨w, p⟩ := c
  obtain hw | hw | hw := word_cases w
  · obtain ⟨j, henc, hwf, hdec⟩ := decodeCmd_of_mem_plainWords hw
    obtain ⟨rfl, rfl⟩ := plainCommand_eq_ok.1 (hdec p ▸ h)
    exact ⟨henc, hwf⟩
  · obtain ⟨mk, hmk⟩ := decodeCmd_of_mem_operandWords hw
    obtain ⟨henc, hwf, hdec⟩ := hmk p
    obtain ⟨hfits, rfl⟩ := operandCommand_eq_ok.1 (hdec ▸ h)
    exact ⟨henc, hwf.trans hfits⟩
  · exact nomatch (decodeCmd_reserved hw).symm.trans h

/-- Settles O3: a submission by the three kinds of command word, a step index by the table. -/
theorem encodeOfDecodeIsTheEncoding : Obligations.EncodeOfDecodeIsTheEncoding := by
  intro e i h
  cases e with
  | cmd c => exact encode_of_decodeCmd h
  | step k =>
    cases h
    exact ⟨encode_decodeStep k, wellFormed_decodeStep k⟩

/-- Settles O1: each encoding written out is the encoding of the instruction named, so it decodes
to it. -/
theorem wordsDecodeToWhatTheyName : Obligations.WordsDecodeToWhatTheyName :=
  ⟨decode_encode (i := .new) rfl, decode_encode (i := .reset) rfl,
    decode_encode (i := .blockSize) rfl, decode_encode (i := .digestSize) rfl,
    decode_encode (i := .serialize) rfl,
    fun _ hp => ⟨decode_write hp, decode_sum hp, decode_restore hp, decode_appendSerialize hp⟩,
    decode_encode (i := .step0) rfl, decode_encode (i := .step9) rfl,
    decode_encode (i := .step22) rfl, decode_encode (i := .step33) rfl,
    decode_encode (i := .step63) rfl⟩

/-! ### Submissions that are no command (R91, log 7) -/

/-- The condition of R91 on the fields of R81, as one bound on the word. -/
theorem nine_le_toNat_of_reserved {w : Byte}
    (h : w.extractLsb' 4 4 ≠ 0 ∨ 9 ≤ (w.extractLsb' 0 4).toNat) : 9 ≤ w.toNat := by
  rw [Ne, ← BitVec.toNat_inj, BitVec.extractLsb'_toNat, BitVec.extractLsb'_toNat,
    Nat.shiftRight_eq_div_pow, Nat.shiftRight_zero] at h
  simp only [BitVec.ofNat_eq_ofNat, BitVec.toNat_ofNat] at h
  omega

/-- Settles O4: a reserved word decodes to nothing, and the step answers it. -/
theorem reservedWordAnswersBadCommand : Obligations.ReservedWordAnswersBadCommand :=
  fun _ _ _ hb hp hword =>
    step_of_reserved hb hp (decodeCmd_reserved (nine_le_toNat_of_reserved hword))

theorem step_of_strayOperand {s : State} {c : Submission} {rest : List Submission}
    (hb : s.busy = none) (hp : s.pending = c :: rest)
    (hd : decode (.cmd c) = .error .strayOperand) : step s = .refused (.strayOperand c.word) := by
  simp only [step, fetch, hb, hp, hd, List.headD_cons]

theorem step_of_operandTooLong {s : State} {c : Submission} {rest : List Submission}
    (hb : s.busy = none) (hp : s.pending = c :: rest)
    (hd : decode (.cmd c) = .error .operandTooLong) :
    step s = .refused (.operandTooLong c.word) := by
  simp only [step, fetch, hb, hp, hd, List.headD_cons]

/-- Settles O5: the two kinds of command word, each with the operand it excludes. -/
theorem malformedSubmissionIsRefused : Obligations.MalformedSubmissionIsRefused := by
  refine fun s c rest hb hp => ⟨fun hw hne => ?_, fun hw hlong => ?_⟩
  · obtain ⟨i, -, -, hdec⟩ := decodeCmd_of_mem_plainWords hw
    exact step_of_strayOperand hb hp ((hdec c.operand).trans (plainCommand_of_ne_nil i hne))
  · obtain ⟨mk, hmk⟩ := decodeCmd_of_mem_operandWords hw
    obtain ⟨-, -, hdec⟩ := hmk c.operand
    exact step_of_operandTooLong hb hp (hdec.trans (operandCommand_of_le_length mk hlong))

/-! ### The fields of the checkpoint (R89, R193) -/

theorem byteAt_be32 (w : Word) {j : Nat} (hj : j < 4) :
    byteAt (be32 w) j = w.extractLsb' (8 * (3 - j)) 8 := by
  interval_cases j <;> rfl

theorem byteAt_be64 (v : DWord) {j : Nat} (hj : j < 8) :
    byteAt (be64 v) j = v.extractLsb' (8 * (7 - j)) 8 := by
  interval_cases j <;> rfl

/-- A field is read back at the offset that the bytes before it make up. -/
theorem slice_field {pre field post : List Byte} {lo n : Nat} (hlo : pre.length = lo)
    (hn : field.length = n) : slice (pre ++ field ++ post) lo n = field := by
  subst hlo hn
  simp [slice]

/-- Settles O40: the fields up to byte 20 stand at fixed places; the buffer field has 64 bytes, so
the counter begins at byte 84. -/
theorem checkpointLayout : Obligations.CheckpointLayout := by
  intro m hnx
  have hbuf : (bufferField m.buf).length = 64 := bufferField_length (Nat.le_of_lt hnx)
  have hcounter : slice (checkpoint m) 84 8 = be64 m.len := by
    rw [← List.append_nil (checkpoint m)]
    exact slice_field (by simp [hbuf, Config.ckptTag]) rfl
  refine ⟨rfl, rfl, rfl, rfl, rfl, rfl, slice_field rfl hbuf, hcounter, checkpoint_length hnx,
    fun w j hj => ?_, fun v j hj => ?_⟩
  · rw [byteAt_be32 w hj, extractByte_toNat]
  · rw [byteAt_be64 v hj, extractByte_toNat]

end Sys2Proof.Proofs

namespace Sys2Proof.Proofs

open Sys2Proof Sys2Proof.Machine

/-! ### The four bitwise functions (R114 to R117) -/

section BitFunctions
variable (x y z : Word)

section Bits
variable {j : Nat} (hj : j < 32)
include hj

theorem getLsbD_f0 : (f0 x y z).getLsbD j = if x.getLsbD j then y.getLsbD j else z.getLsbD j := by
  simp only [f0, BitVec.getLsbD_or, BitVec.getLsbD_and, BitVec.getLsbD_not, hj]
  cases x.getLsbD j <;> simp

theorem getLsbD_f1 : (f1 x y z).getLsbD j = if z.getLsbD j then x.getLsbD j else y.getLsbD j := by
  simp only [f1, BitVec.getLsbD_or, BitVec.getLsbD_and, BitVec.getLsbD_not, hj]
  cases z.getLsbD j <;> simp

theorem getLsbD_f3 : (f3 x y z).getLsbD j = (y.getLsbD j != (x.getLsbD j || !z.getLsbD j)) := by
  simp [f3, hj]

end Bits

theorem getLsbD_f2 (j : Nat) :
    (f2 x y z).getLsbD j = (x.getLsbD j != (y.getLsbD j != z.getLsbD j)) := by
  simp [f2]

/-- The equivalent form of R114: where `x` has a 1, the two exclusive-ors with `z` cancel. -/
theorem f0_eq_xor : f0 x y z = z ^^^ (x &&& (y ^^^ z)) := by
  apply BitVec.eq_of_getLsbD_eq
  intro j hj
  rw [getLsbD_f0 x y z hj, BitVec.getLsbD_xor, BitVec.getLsbD_and, BitVec.getLsbD_xor]
  cases x.getLsbD j <;> simp [Bool.xor_left_comm]

theorem f0_same : f0 x y y = y := by
  apply BitVec.eq_of_getLsbD_eq
  intro j hj
  rw [getLsbD_f0 x y y hj, ite_self]

/-- The equivalent form of R115: `f_1` is `f_0` with `z` as the selector. -/
theorem f1_eq_f0 : f1 x y z = f0 z x y := by
  rw [f1, f0, BitVec.and_comm x, BitVec.and_comm y]

theorem f2_same : f2 x x z = z := by simp [f2]

/-- The all-ones word by the name the library's lemmas use: the corner cases below keep simp from
evaluating that name to the literal. -/
theorem word_ones : 0xffffffff#32 = BitVec.allOnes 32 := rfl

theorem f0_zero : f0 0 y z = z := by simp [f0, -BitVec.reduceAllOnes]
theorem f0_ones : f0 0xffffffff y z = y := by simp [f0, word_ones, -BitVec.reduceAllOnes]
theorem f3_zero_right : f3 x y 0 = ~~~y := by simp [f3, -BitVec.reduceAllOnes]
theorem f3_ones_left : f3 0xffffffff y z = ~~~y := by
  simp [f3, word_ones, -BitVec.reduceAllOnes]
theorem f3_zero_ones : f3 0 y 0xffffffff = y := by simp [f3]

end BitFunctions

/-- Settles O16: the functions bit by bit, and their equal forms and corner cases word by word; the
corner cases of `f_1` are those of `f_0`. -/
theorem bitFunctionsBitByBit : Obligations.BitFunctionsBitByBit :=
  ⟨fun x y z j hj =>
      ⟨getLsbD_f0 x y z hj, getLsbD_f1 x y z hj, getLsbD_f2 x y z j, getLsbD_f3 x y z hj⟩,
    fun x y z =>
      ⟨rfl, f0_eq_xor x y z, f0_zero y z, f0_ones y z, f0_same x y,
        rfl, f1_eq_f0 x y z, (f1_eq_f0 x y _).trans (f0_zero x y),
        (f1_eq_f0 x y _).trans (f0_ones x y),
        rfl, f2_same x z, rfl, rfl,
        rfl, rfl, f3_zero_right x y, f3_ones_left y z, f3_zero_ones y⟩⟩

/-! ### The schedules, and an invocation's beginning and end (R112, R118, R119, R123) -/

/-- Settles O19: each clause speaks of at most 64 entries of the two tables, which are looked up. -/
theorem schedulesAreAsTheirRulesSay : Obligations.SchedulesAreAsTheirRulesSay := by
  refine ⟨?formulas, ?permutations, ?rows, ?range, ?period⟩
  case formulas => decide
  case permutations => decide
  case rows => decide
  case range => decide
  case period => decide

/-- Settles O20: loading the registers does not touch the chaining state the invocation is for. -/
theorem accumulatorsLoadedAndAdded : Obligations.AccumulatorsLoadedAndAdded := by
  intro c blk s
  refine ⟨⟨rfl, rfl, ?_⟩, chaining_finishTransform c s, finishTransform_busy c s⟩
  rw [beginTransform_eq_duringInvocation, chaining_duringInvocation]

/-! ### The 64 steps are the generic step of R122 at each index (R86, R124) -/

theorem mod_four_cases (i : Nat) : i % 4 = 0 ∨ i % 4 = 1 ∨ i % 4 = 2 ∨ i % 4 = 3 := by omega

/-- The row `i mod 4` of the table of R122, with the entries of the schedules at index `i`. -/
def scheduledStep (i : Nat) : XformRegs → XformRegs :=
  let row := match i % 4 with
    | 0 => writesA
    | 1 => writesD
    | 2 => writesC
    | _ => writesB
  row (fRound (roundOf i)) (gIndex i) (kConst i) (sAmount i)

/-- What R300 to R363 write out step by step are the entries of the schedules (R124). -/
theorem xsteps_eq_map_scheduledStep : xsteps = (List.range 64).map scheduledStep := rfl

/-- The rows add the message word and the constant one after the other, `fixedStep` their sum. -/
theorem scheduledStep_eq_fixedStep (i : Nat) (u : XformRegs) :
    scheduledStep i u = { u with acc := fixedStep i u.x u.acc } := by
  obtain h | h | h | h := mod_four_cases i <;>
    simp only [scheduledStep, fixedStep, h, writesA, writesD, writesC, writesB, BitVec.add_assoc]

theorem xsteps_getD_eq_fixedStep {n : Nat} (hn : n < 64) (u : XformRegs) :
    (xsteps.getD n id) u = { u with acc := fixedStep n u.x u.acc } := by
  have hrow : xsteps.getD n id = scheduledStep n := by simp [xsteps_eq_map_scheduledStep, hn]
  rw [hrow, scheduledStep_eq_fixedStep]

/-- Settles O14: the instruction of an index is the step of that number, which is the generic step
at that index. -/
theorem stepOfIndexFollowsTheSchedules : Obligations.StepOfIndexFollowsTheSchedules := by
  intro i s
  rw [exec_of_index, xsteps_getD_eq_fixedStep i.isLt]

/-- The generic step leaves every register but the one its row writes (R122). -/
theorem fixedStep_frame (i : Nat) (x : Vector Word 16) (r : Words4) :
    (i % 4 ≠ 0 → (fixedStep i x r).a = r.a) ∧ (i % 4 ≠ 1 → (fixedStep i x r).d = r.d) ∧
    (i % 4 ≠ 2 → (fixedStep i x r).c = r.c) ∧ (i % 4 ≠ 3 → (fixedStep i x r).b = r.b) := by
  obtain h | h | h | h := mod_four_cases i <;> simp [fixedStep, h]

/-- Settles O15: by O14 a step changes the working registers alone, and those by `fixedStep`. -/
theorem stepWritesOneRegisterOnly : Obligations.StepWritesOneRegisterOnly := by
  intro i s t h
  cases h.symm.trans (stepOfIndexFollowsTheSchedules i s)
  obtain ⟨ha, hd, hc, hb⟩ := fixedStep_frame i.toNat s.xform.x s.xform.acc
  exact ⟨ha, hd, hc, hb, rfl, rfl, rfl, rfl, fun _ => rfl, rfl, rfl, rfl, rfl, rfl⟩

/-! ### The message words (R111) -/

/-- The weighted sum of four bytes is below 2^32, so the word is that sum. -/
theorem unle32_toNat (s : List Byte) (j : Nat) :
    (unle32 s j).toNat =
      (byteAt s j).toNat + 2 ^ 8 * (byteAt s (j + 1)).toNat + 2 ^ 16 * (byteAt s (j + 2)).toNat +
        2 ^ 24 * (byteAt s (j + 3)).toNat := by
  have h0 := (byteAt s j).isLt
  have h1 := (byteAt s (j + 1)).isLt
  have h2 := (byteAt s (j + 2)).isLt
  have h3 := (byteAt s (j + 3)).isLt
  rw [unle32, BitVec.toNat_ofNat]
  omega

theorem msgWords_getElem (blk : List Byte) (j : Fin 16) :
    (msgWords blk)[j] = unle32 blk (4 * j) := by
  fin_cases j <;> rfl

/-- Settles O18: the word loaded at `j` is `unle32` at byte `4j`, and by O14 a step changes the
working registers alone. -/
theorem messageWordsAreLittleEndian : Obligations.MessageWordsAreLittleEndian := by
  refine ⟨fun h blk _ j => ?_, fun i s t hstep => ?_⟩
  · exact (congrArg BitVec.toNat (msgWords_getElem blk j)).trans (unle32_toNat blk (4 * j))
  · cases hstep.symm.trans (stepOfIndexFollowsTheSchedules i s)
    rfl

/-! ### The fixed-register form and the rotating-role form agree (R121, R122, R125) -/

/-- The fixed registers in the order of the roles A, B, C, D that they play at step `i`: from one
step to the next each register moves on by one role (R121). -/
def roles (i : Nat) (r : Words4) : Words4 :=
  match i % 4 with
  | 0 => r
  | 1 => ⟨r.d, r.a, r.b, r.c⟩
  | 2 => ⟨r.c, r.d, r.a, r.b⟩
  | _ => ⟨r.b, r.c, r.d, r.a⟩

/-- One step of the two forms: rotating the roles after the step is the step on the register whose
role it is, seen in the roles of the next step. -/
theorem rotatingStep_roles (x : Vector Word 16) (i : Nat) (r : Words4) :
    rotatingStep x i (roles i r) = roles (i + 1) (fixedStep i x r) := by
  obtain h | h | h | h := mod_four_cases i <;>
    simp [rotatingStep, roles, fixedStep, h, Nat.add_mod i 1 4, BitVec.add_assoc]

/-- The other steps of the loop, then the last. -/
theorem rotatingSteps_succ (x : Vector Word 16) (n i : Nat) (r : Words4) :
    rotatingSteps x (n + 1) i r = rotatingStep x (i + n) (rotatingSteps x n i r) := by
  induction n generalizing i r with
  | zero => rfl
  | succ n ih =>
    rw [rotatingSteps, ih, Nat.add_assoc, Nat.add_comm 1]
    rfl

section BothForms
variable (h : Words4) (blk : List Byte) {n : Nat}

theorem regsAfter_acc_succ (hn : n < 64) :
    (regsAfter h blk (n + 1)).acc = fixedStep n (msgWords blk) (regsAfter h blk n).acc := by
  rw [regsAfter_succ h blk hn, xsteps_getD_eq_fixedStep hn, regsAfter_x h blk (Nat.le_of_lt hn)]

/-- The simulation: after `n` steps the loop holds the registers of the fixed form, in the roles of
step `n`. -/
theorem rotatingSteps_eq_roles_regsAfter (hn : n ≤ 64) :
    rotatingSteps (msgWords blk) n 0 h = roles n (regsAfter h blk n).acc := by
  induction n with
  | zero => rfl
  | succ n ih =>
    rw [rotatingSteps_succ, ih (Nat.le_of_lt hn), Nat.zero_add, rotatingStep_roles,
      regsAfter_acc_succ h blk hn]

end BothForms

/-- Settles O21: after 64 steps, a multiple of four, every register is back in its own role. -/
theorem fixedAndRotatingFormsAgree : Obligations.FixedAndRotatingFormsAgree := by
  intro h blk _
  rw [transform_eq_addWords_regsAfter, rotatingTransform,
    rotatingSteps_eq_roles_regsAfter h blk (Nat.le_refl 64)]
  rfl

end Sys2Proof.Proofs

namespace Sys2Proof.Proofs

open Sys2Proof Sys2Proof.Machine

/-! ### The 64 steps by their numbers (R300 to R363) -/

/-- The generic step at index `i` as R300 to R363 spell it: the message word and the constant added
one after the other, and the library's rotation. `scheduledWords_eq_fixedStep` ties it to R122. -/
def scheduledWords (i : Nat) (x : Vector Word 16) (r : Words4) : Words4 :=
  let f := fRound (roundOf i)
  match i % 4 with
  | 0 => { r with a := r.b + (r.a + f r.b r.c r.d + x[gIndex i] + kConst i).rotateLeft (sAmount i) }
  | 1 => { r with d := r.a + (r.d + f r.a r.b r.c + x[gIndex i] + kConst i).rotateLeft (sAmount i) }
  | 2 => { r with c := r.d + (r.c + f r.d r.a r.b + x[gIndex i] + kConst i).rotateLeft (sAmount i) }
  | _ => { r with b := r.c + (r.b + f r.c r.d r.a + x[gIndex i] + kConst i).rotateLeft (sAmount i) }

/-- The amounts are such that `rotl32` is the library's rotation (R119). -/
theorem sAmount_lt {i : Nat} (hi : i < 64) : sAmount i < 32 := by
  obtain ⟨-, -, -, hrange, -⟩ := schedulesAreAsTheirRulesSay
  have hmax : sAmount i ≤ 23 := (hrange ⟨i, hi⟩).2
  omega

theorem scheduledWords_eq_fixedStep {i : Nat} (hi : i < 64) (x : Vector Word 16) (r : Words4) :
    scheduledWords i x r = fixedStep i x r := by
  obtain h | h | h | h := mod_four_cases i <;>
    simp only [scheduledWords, fixedStep, h, rotl32_eq_rotateLeft _ (sAmount_lt hi),
      BitVec.add_assoc]

/-- Every index decodes (R93), and by O14 the step it decodes to replaces the four accumulators by
the scheduled words and leaves the rest. -/
theorem result_of_index {s : State} {A B C D : Word} (hacc : s.xform.acc = ⟨A, B, C, D⟩)
    (j : BitVec 6) :
    decode (.step j) = .ok (decodeStep j) ∧
      exec (decodeStep j) s = .next { s with xform :=
        { s.xform with acc := scheduledWords j.toNat s.xform.x ⟨A, B, C, D⟩ } } := by
  rw [stepOfIndexFollowsTheSchedules, scheduledWords_eq_fixedStep j.isLt, hacc]
  exact ⟨rfl, rfl⟩

/-- Settles O6: round 0 has `f_0` and the amounts 7, 12, 17, 22; the message words and the
constants are the entries of `G` and `K` at 0 to 7. -/
theorem resultOfSteps0To7 : Obligations.ResultOfSteps0To7 := fun _ _ _ _ _ h =>
  ⟨result_of_index h 0, result_of_index h 1, result_of_index h 2, result_of_index h 3,
    result_of_index h 4, result_of_index h 5, result_of_index h 6, result_of_index h 7⟩

/-- Settles O7: round 0 as in O6, with the entries of `G` and `K` at 8 to 15. -/
theorem resultOfSteps8To15 : Obligations.ResultOfSteps8To15 := fun _ _ _ _ _ h =>
  ⟨result_of_index h 8, result_of_index h 9, result_of_index h 10, result_of_index h 11,
    result_of_index h 12, result_of_index h 13, result_of_index h 14, result_of_index h 15⟩

/-- Settles O8: round 1 has `f_1` and the amounts 5, 9, 14, 20; the message words and the
constants are the entries of `G` and `K` at 16 to 23. -/
theorem resultOfSteps16To23 : Obligations.ResultOfSteps16To23 := fun _ _ _ _ _ h =>
  ⟨result_of_index h 16, result_of_index h 17, result_of_index h 18, result_of_index h 19,
    result_of_index h 20, result_of_index h 21, result_of_index h 22, result_of_index h 23⟩

/-- Settles O9: round 1 as in O8, with the entries of `G` and `K` at 24 to 31. -/
theorem resultOfSteps24To31 : Obligations.ResultOfSteps24To31 := fun _ _ _ _ _ h =>
  ⟨result_of_index h 24, result_of_index h 25, result_of_index h 26, result_of_index h 27,
    result_of_index h 28, result_of_index h 29, result_of_index h 30, result_of_index h 31⟩

/-- Settles O10: round 2 has `f_2` and the amounts 4, 11, 16, 23; the message words and the
constants are the entries of `G` and `K` at 32 to 39. -/
theorem resultOfSteps32To39 : Obligations.ResultOfSteps32To39 := fun _ _ _ _ _ h =>
  ⟨result_of_index h 32, result_of_index h 33, result_of_index h 34, result_of_index h 35,
    result_of_index h 36, result_of_index h 37, result_of_index h 38, result_of_index h 39⟩

/-- Settles O11: round 2 as in O10, with the entries of `G` and `K` at 40 to 47. -/
theorem resultOfSteps40To47 : Obligations.ResultOfSteps40To47 := fun _ _ _ _ _ h =>
  ⟨result_of_index h 40, result_of_index h 41, result_of_index h 42, result_of_index h 43,
    result_of_index h 44, result_of_index h 45, result_of_index h 46, result_of_index h 47⟩

/-- Settles O12: round 3 has `f_3` and the amounts 6, 10, 15, 21; the message words and the
constants are the entries of `G` and `K` at 48 to 55. -/
theorem resultOfSteps48To55 : Obligations.ResultOfSteps48To55 := fun _ _ _ _ _ h =>
  ⟨result_of_index h 48, result_of_index h 49, result_of_index h 50, result_of_index h 51,
    result_of_index h 52, result_of_index h 53, result_of_index h 54, result_of_index h 55⟩

/-- Settles O13: round 3 as in O12, with the entries of `G` and `K` at 56 to 63. -/
theorem resultOfSteps56To63 : Obligations.ResultOfSteps56To63 := fun _ _ _ _ _ h =>
  ⟨result_of_index h 56, result_of_index h 57, result_of_index h 58, result_of_index h 59,
    result_of_index h 60, result_of_index h 61, result_of_index h 62, result_of_index h 63⟩

end Sys2Proof.Proofs

namespace Sys2Proof.Proofs

open Sys2Proof Sys2Proof.Machine

/-! ### The commands that only answer, and those that reset (R150, R151, R153 to R155) -/

/-- Settles O24: each word is the encoding of its command, and each meaning writes the
reset instance, field by field. -/
theorem newAndResetGiveTheResetInstance : Obligations.NewAndResetGiveTheResetInstance :=
  fun _ => ⟨⟨decode_encode (i := .new) rfl, rfl⟩, ⟨decode_encode (i := .reset) rfl, rfl⟩⟩

/-- Settles O28: each word is the encoding of its command, and each meaning is one response. -/
theorem resultOfBlockSizeAndDigestSize : Obligations.ResultOfBlockSizeAndDigestSize :=
  fun _ => ⟨⟨decode_encode (i := .blockSize) rfl, rfl⟩, ⟨decode_encode (i := .digestSize) rfl, rfl⟩⟩

/-- Settles O27: what SUM does to the state, and the sixteen bytes of a digest. -/
theorem resultOfSum : Obligations.ResultOfSum := by
  intro pre s
  obtain ⟨t, ht, hinst, hresp, hbusy, hpending⟩ := exec_sum_next pre s
  exact ⟨decode_sum, t, ht, ⟨digestBytes_length _, hresp⟩, hinst,
    fun j => congrArg (Instance.byteAt · j) hinst, hbusy, hpending⟩

/-- Settles O31: the response of a SUM is a function of the instance it finds, SUM leaves
the instance, and what WRITE leaves is a function of it too. -/
theorem sumDoesNotDisturb : Obligations.SumDoesNotDisturb := by
  intro pre p s
  obtain ⟨t, ht, hinst, -⟩ := exec_sum_next pre s
  obtain ⟨u, hu, -⟩ := exec_sum_next pre t
  obtain ⟨r, hr, hr'⟩ := exec_twice_same_response rfl ht hu hinst
  obtain ⟨w, hw, hwInst, -⟩ := exec_write_next p t
  obtain ⟨w', hw', hwInst', -⟩ := exec_write_next p s
  obtain ⟨_, r', hsum⟩ := exec_command_of_inst (.sum pre) (writeInstance p s.inst) rfl
  obtain ⟨y, hy, -, hyResp⟩ := hsum w (hwInst.trans (congrArg (writeInstance p) hinst))
  obtain ⟨y', hy', -, hyResp'⟩ := hsum w' hwInst'
  exact ⟨t, r, ht, hr, ⟨u, hu, hr'⟩, w, y, w', y', r', hw, hy, hyResp, hw', hy', hyResp'⟩

/-! ### WRITE: its result, in pieces, and the cases of its shorter path (R152, R156, R158, R159) -/

/-- Settles O26: what WRITE does to the state; the remainder's length is `(NX + len(p)) mod 64`, and
where no block is complete fewer than 64 bytes are in the buffer and the operand together. -/
theorem resultOfWrite : Obligations.ResultOfWrite := by
  intro p s
  obtain ⟨t, ht, hinst, hresp, hdup, hbusy, hpending, hscratch⟩ := exec_write_next p s
  have hnx := writeInstance_nx p s.inst
  have hT : (s.inst.buf ++ p).length = s.inst.nx + p.length := List.length_append
  rw [← hinst] at hnx
  rw [writeInstance_eq] at hinst
  refine ⟨decode_write, t, ht, ?_, ⟨?_, ?_, ?_, fun hq => hscratch ?_⟩, hresp, hdup, hbusy,
    hpending⟩
  · rw [hinst]; exact addLen_toNat _ _
  · rw [hinst]; rfl
  · rw [hinst]
  · omega
  · omega

/-- Settles O29: what WRITE leaves is a function of the instance, and `writeInstance_append` is
its law. -/
theorem writingInTwoPiecesIsWritingOnce : Obligations.WritingInTwoPiecesIsWritingOnce := by
  intro p q s
  obtain ⟨t, ht, htInst, -⟩ := exec_write_next p s
  obtain ⟨u, hu, huInst, -⟩ := exec_write_next q t
  obtain ⟨v, hv, hvInst, -⟩ := exec_write_next (p ++ q) s
  exact ⟨t, u, v, ht, hu, hv, by rw [huInst, htInst, writeInstance_append, hvInst]⟩

/-- A WRITE that completes no block runs no transform: it changes the instance and answers (R37). -/
theorem exec_write_of_short {p : List Byte} {s : State} (h : s.inst.nx + p.length < 64) :
    exec (.write p) s = .next (respondOk .none (setInstance (writeInstance p s.inst) s)) := by
  have hno : writeTransforms p s.inst = false := by
    rw [writeTransforms, List.length_append]
    exact decide_eq_false (Nat.not_le_of_lt h)
  simp only [exec, execWrite, hno, Bool.false_eq_true, if_false]

/-- Settles O30: no block is completed, and the instance that nothing is written to is as before. -/
theorem emptyWriteChangesNothing : Obligations.EmptyWriteChangesNothing := by
  intro s h
  rw [exec_write_of_short (p := []) h, writeInstance_nil h]
  rfl

/-- While no block is complete the operand is only kept (R152). -/
theorem writeInstance_of_short {p : List Byte} {m : Instance} (h : m.nx + p.length < 64) :
    writeInstance p m = { m with buf := m.buf ++ p, len := addLen m.len p.length } := by
  have hblocks : (m.buf ++ p).length / 64 = 0 := by
    rw [List.length_append]
    exact Nat.div_eq_of_lt h
  simp only [writeInstance, Config.blockSize, hblocks, absorb]

/-- An operand that fills the pending block is transformed with it, and nothing is kept (R152). -/
theorem writeInstance_of_fill {p : List Byte} {m : Instance} (h : m.nx + p.length = 64) :
    writeInstance p m = ⟨transform m.h (m.buf ++ p), [], addLen m.len p.length⟩ := by
  have hlen : (m.buf ++ p).length = 64 := List.length_append.trans h
  have htake : (m.buf ++ p).take 64 = m.buf ++ p := List.take_of_length_le hlen.le
  have hdrop : (m.buf ++ p).drop 64 = [] := List.drop_of_length_le hlen.le
  simp only [writeInstance, Config.blockSize, hlen, absorb, Nat.div_self, Nat.zero_lt_succ, htake,
    hdrop]

/-- An operand that completes the pending block is written in two pieces: what fills the block, and
the rest to an empty buffer (R158). -/
theorem writeInstance_eq_fill_then_rest {p : List Byte} {m : Instance} (hnx : m.nx < 64)
    (hlong : 64 ≤ m.nx + p.length) :
    writeInstance p m = writeInstance (p.drop (64 - m.nx))
      ⟨transform m.h (m.buf ++ p.take (64 - m.nx)), [], addLen m.len (64 - m.nx)⟩ := by
  have hroom : (p.take (64 - m.nx)).length = 64 - m.nx :=
    List.length_take_of_le (by omega)
  have hfill : m.nx + (p.take (64 - m.nx)).length = 64 := by
    rw [hroom]
    exact Nat.add_sub_cancel' hnx.le
  calc writeInstance p m
      = writeInstance (p.take (64 - m.nx) ++ p.drop (64 - m.nx)) m := by rw [List.take_append_drop]
    _ = writeInstance (p.drop (64 - m.nx)) (writeInstance (p.take (64 - m.nx)) m) :=
        (writeInstance_append _ _ _).symm
    _ = _ := by rw [writeInstance_of_fill hfill, hroom]

/-- Settles O32: with an empty buffer the blocks of the operand are those of the rule; with bytes
pending that the operand completes, the rule too goes on from an empty buffer. -/
theorem shorterPathOfWriteAgrees : Obligations.ShorterPathOfWriteAgrees := by
  intro p m hnx
  have hT : (m.buf ++ p).length = m.nx + p.length := List.length_append
  unfold writeShortPath
  split_ifs with hempty hlong hshort
  · simp only [writeInstance, hempty, List.nil_append]
  · have hp : m.nx + p.length < 64 := by
      rw [← hT, hempty]
      exact Nat.lt_of_not_le hlong
    rw [writeInstance_of_short hp, hempty, List.nil_append]
  · exact (writeInstance_of_short (hT ▸ hshort)).symm
  · have hlong : 64 ≤ m.nx + p.length := hT ▸ Nat.le_of_not_lt hshort
    have hcount : 64 - m.nx + (p.drop (64 - m.nx)).length = p.length := by
      rw [List.length_drop]
      omega
    rw [writeInstance_eq_fill_then_rest hnx hlong]
    simp only [writeInstance, Config.blockSize, List.nil_append, addLen_addLen, hcount]

/-! ### The digest of a message (R161, R176) -/

/-- Folding the blocks of a sequence, and then those of what is left and what follows, is folding
the blocks of the whole (R156). -/
theorem foldBlocks_append (h : Words4) (t u : List Byte) :
    foldBlocks (foldBlocks h t) (t.drop (64 * (t.length / 64)) ++ u) = foldBlocks h (t ++ u) := by
  simpa only [writeInstance_eq, List.nil_append] using
    congrArg Instance.h (writeInstance_append t u ⟨h, [], 0⟩)

theorem bitLen_eq_ofNat (len : DWord) : bitLen len = BitVec.ofNat 64 (len.toNat * 8 % 2 ^ 64) := by
  rw [← bitLen_toNat, BitVec.ofNat_toNat, BitVec.setWidth_eq]

theorem padded_eq_append_padSuffix (buf : List Byte) (len : DWord) :
    padded buf len = buf ++ padSuffix buf.length len.toNat := by
  simp [padded, padSuffix, zeroCount_int, bitLen_eq_ofNat, Config.padFirst, Config.padFill]

/-- The Finalizer is the fold over the padded buffer, as sixteen bytes (R176). -/
theorem finalize_eq_digestOf (h : Words4) (buf : List Byte) (len : DWord) :
    finalize h buf len = digestOf h buf len.toNat := by
  simp only [finalize, digestOf, Config.blockSize, absorb_eq_foldBlocks, padded_eq_append_padSuffix,
    digestBytes]

/-- The padding depends on the number of bytes in the last block alone (R172). -/
theorem padSuffix_mod (n len : Nat) : padSuffix (n % 64) len = padSuffix n len := by
  simp only [padSuffix, zeroCount_int, zeroCount, Nat.mod_mod]

/-- The digest may be taken from the state after the complete blocks and the bytes they leave. -/
theorem digestOf_foldBlocks (h : Words4) (t : List Byte) (len : Nat) :
    digestOf (foldBlocks h t) (t.drop (64 * (t.length / 64))) len = digestOf h t len := by
  have hrest : (t.drop (64 * (t.length / 64))).length = t.length % 64 := by
    rw [List.length_drop]; omega
  simp only [digestOf, hrest, padSuffix_mod, foldBlocks_append]

/-- Finalizing the instance that stands for a message gives the digest of the message. -/
theorem finalize_writeInstance_reset {M : List Byte} (hM : M.length < 2 ^ 64) {m : Instance}
    (hm : m = writeInstance M Instance.reset) :
    finalize m.h m.buf m.len = digestOf Config.init M M.length := by
  have hcount : (addLen 0 M.length).toNat = M.length := by
    rw [addLen_toNat, show (0 : DWord).toNat = 0 from rfl, Nat.zero_add, Nat.mod_eq_of_lt hM]
  rw [hm, writeInstance_eq, finalize_eq_digestOf]
  simp only [Instance.reset, List.nil_append, hcount, digestOf_foldBlocks]

/-- Everything NEW does but to the scratch registers (R150). -/
theorem exec_new_next (s : State) :
    ∃ t, exec .new s = .next t ∧ t.inst = Instance.reset ∧
      t.responses = s.responses ++ [⟨.ok, none, .none⟩] ∧ t.busy = s.busy ∧ t.pending = s.pending :=
  ⟨_, rfl, rfl, rfl, rfl, rfl⟩

/-- Settles O33: NEW gives the reset instance, WRITE the one that stands for the message, and SUM
finalizes it. -/
theorem digestOfAMessage : Obligations.DigestOfAMessage := by
  intro M s hM hb hp
  have hM64 : M.length < 2 ^ 64 := by omega
  obtain ⟨t, ht, htInst, htResp, htBusy, htPending⟩ :=
    exec_new_next { s with pending := [⟨0x01, M⟩, ⟨0x02, []⟩] }
  obtain ⟨u, hu, huInst, huResp, -, huBusy, huPending, -⟩ :=
    exec_write_next M { t with pending := [⟨0x02, []⟩] }
  obtain ⟨v, hv, -, hvResp, -⟩ := exec_sum_next [] { u with pending := [] }
  have hub : u.busy = none := huBusy.trans (htBusy.trans hb)
  have hnew : step s = .next t := step_of_command hb hp rfl ht
  have hwrite : step t = .next u :=
    step_of_command (htBusy.trans hb) htPending (decode_write hM64) hu
  have hsum : step u = .next v := step_of_command hub huPending (decode_sum (by decide)) hv
  have hdigest : finalize u.inst.h u.inst.buf u.inst.len = digestOf Config.init M M.length :=
    finalize_writeInstance_reset hM64 (huInst.trans (congrArg (writeInstance M) htInst))
  refine ⟨v, (runN_step 2 hnew).trans ((runN_step 1 hwrite).trans (runN_step 0 hsum)), ?_⟩
  simp [hvResp, huResp, htResp, hdigest, okResponse, Config.init]

end Sys2Proof.Proofs

namespace Sys2Proof.Proofs

open Sys2Proof Sys2Proof.Machine

/-! ### The bytes of the length field and of the digest (R173, R175) -/

theorem byteAt_le32 (w : Word) {j : Nat} (hj : j < 4) :
    byteAt (le32 w) j = w.extractLsb' (8 * j) 8 := by
  interval_cases j <;> rfl

theorem byteAt_le64 (v : DWord) {j : Nat} (hj : j < 8) :
    byteAt (le64 v) j = v.extractLsb' (8 * j) 8 := by
  interval_cases j <;> rfl

theorem byteAt_le32_toNat (w : Word) {j : Nat} (hj : j < 4) :
    (byteAt (le32 w) j).toNat = w.toNat / 2 ^ (8 * j) % 2 ^ 8 := by
  rw [byteAt_le32 w hj, extractByte_toNat]

/-- The four words of the digest stand one after the other, four bytes each. -/
theorem byteAt_digestBytes (h : Words4) {j : Nat} (hj : j < 4) :
    byteAt (digestBytes h) j = byteAt (le32 h.a) j ∧
    byteAt (digestBytes h) (4 + j) = byteAt (le32 h.b) j ∧
    byteAt (digestBytes h) (8 + j) = byteAt (le32 h.c) j ∧
    byteAt (digestBytes h) (12 + j) = byteAt (le32 h.d) j := by
  interval_cases j <;> exact ⟨rfl, rfl, rfl, rfl⟩

/-- Settles O38: each word stands at its offset, and byte `j` of a word is its bits from `8j`. -/
theorem digestIsLittleEndianWordAFirst : Obligations.DigestIsLittleEndianWordAFirst := by
  refine fun h => ⟨digestBytes_length h, fun j hj => ?_⟩
  obtain ⟨ha, hb, hc, hd⟩ := byteAt_digestBytes h hj
  rw [ha, hb, hc, hd]
  exact ⟨byteAt_le32_toNat h.a hj, byteAt_le32_toNat h.b hj, byteAt_le32_toNat h.c hj,
    byteAt_le32_toNat h.d hj⟩

/-- Settles O36: below 2^61 the product is below 2^64, so nothing of it is dropped. -/
theorem lengthFieldIsTheBitCount : Obligations.LengthFieldIsTheBitCount := by
  refine fun len => ⟨bitLen_toNat len, fun hlen => ?_, le64_length _, fun j hj => ?_⟩
  · rw [bitLen_toNat, Nat.mod_eq_of_lt (by omega)]
  · rw [byteAt_le64 _ hj, extractByte_toNat, bitLen_toNat]

/-! ### The padded buffer and the whole Finalizer (R171, R172, R176) -/

/-- The zeros bring the pending bytes and the 0x80 byte to the place of the length field (R171). -/
theorem zeroCount_mod (n : Nat) : (n + 1 + zeroCount n) % 64 = 56 := by
  unfold zeroCount; omega

/-- No smaller number of zeros does (R171). -/
theorem zeroCount_le {n z : Nat} (hz : (n + 1 + z) % 64 = 56) : zeroCount n ≤ z := by
  unfold zeroCount; omega

/-- The four parts of the padded buffer make up its length, whatever the number of bytes (R171). -/
theorem padded_length_parts (buf : List Byte) (len : DWord) :
    (padded buf len).length = buf.length + 1 + zeroCount buf.length + 8 := by
  simp only [padded, List.length_append, List.length_singleton, rep_length, le64_length]

theorem padded_take (buf : List Byte) (len : DWord) : (padded buf len).take buf.length = buf := by
  rw [padded_eq_append_padSuffix, List.take_left]

theorem padded_getElem?_first (buf : List Byte) (len : DWord) :
    (padded buf len)[buf.length]? = some 0x80 := by
  rw [padded_eq_append_padSuffix, List.getElem?_append_right (Nat.le_refl _), Nat.sub_self]
  rfl

theorem padded_getElem?_fill {buf : List Byte} {len : DWord} {j : Nat} (hfirst : buf.length < j)
    (hfield : j + 8 < (padded buf len).length) : (padded buf len)[j]? = some 0x00 := by
  rw [padded_length_parts] at hfield
  have hfront : (buf ++ [Config.padFirst]).length = buf.length + 1 := List.length_append
  rw [padded, List.getElem?_append_left, List.getElem?_append_right, rep,
    List.getElem?_replicate_of_lt, Config.padFill]
  all_goals simp only [List.length_append, rep_length, hfront]; omega

theorem padded_drop (buf : List Byte) (len : DWord) :
    (padded buf len).drop ((padded buf len).length - 8) = le64 (bitLen len) := by
  rw [padded, List.length_append, le64_length, Nat.add_sub_cancel, List.drop_left]

/-- Settles O35: the four parts of the buffer, read at their places, and the zero count. -/
theorem paddedBufferShape : Obligations.PaddedBufferShape := fun buf len hnx =>
  ⟨padded_length len hnx, padded_take buf len, padded_getElem?_first buf len,
    fun _ => padded_getElem?_fill, padded_drop buf len, fun _ => zeroCount_le, zeroCount_mod _⟩

/-- Settles O37: the padded buffer is the pending bytes and their suffix, and the Finalizer folds
its blocks. -/
theorem finalizeIsPadFoldExtract : Obligations.FinalizeIsPadFoldExtract :=
  fun h buf len _ => finalize_eq_digestOf h buf len

end Sys2Proof.Proofs

namespace Sys2Proof.Proofs

open Sys2Proof Sys2Proof.Machine

/-! ### What SERIALIZE and APPENDSERIALIZE answer (R194, R195) -/

/-- The checkpoint with the constants and the pad bytes written out (R193, R194). -/
theorem checkpoint_eq (m : Instance) :
    checkpoint m =
      [0x6d, 0x64, 0x35] ++ [0x01] ++ be32 m.h.a ++ be32 m.h.b ++ be32 m.h.c ++ be32 m.h.d ++
        m.buf ++ List.replicate (64 - m.nx) 0x00 ++ be64 m.len := by
  simp only [checkpoint, bufferField, List.append_assoc]
  rfl

/-- Settles O39: the meaning is one response, and its payload the checkpoint written out. -/
theorem resultOfSerialize : Obligations.ResultOfSerialize := fun s =>
  ⟨decode_encode (i := .serialize) rfl, checkpoint_length, by rw [← checkpoint_eq]; rfl⟩

/-- Settles O41: both commands answer with the checkpoint of the same instance. -/
theorem resultOfAppendSerialize : Obligations.ResultOfAppendSerialize := fun _ s =>
  ⟨decode_appendSerialize, checkpoint s.inst, rfl, rfl⟩

/-! ### What RESTORE does, check by check (R196 to R198, R201) -/

theorem slice_one {s : List Byte} {j : Nat} (h : j < s.length) : slice s j 1 = [byteAt s j] := by
  rw [slice, List.drop_eq_getElem_cons h, byteAt, List.getD_eq_getElem _ _ h]
  rfl

/-- RESTORE's checks on the tag and the version read as fields of the operand (R193, R196). -/
theorem restoreCheck_eq_slices (s : List Byte) :
    restoreCheck s =
      if s.length < 3 ∨ slice s 0 3 ≠ [0x6d, 0x64, 0x35] then some .badTag
      else if s.length < 4 ∨ slice s 3 1 ≠ [0x01] then some .badVersion
      else if s.length ≠ 92 then some .badLength
      else none := by
  have hversion : (s.length < 4 ∨ byteAt s 3 ≠ 0x01) ↔ (s.length < 4 ∨ slice s 3 1 ≠ [0x01]) := by
    by_cases hlen : s.length < 4
    · simp only [hlen, true_or]
    · rw [slice_one (by omega), Ne, Ne, List.singleton_inj]
  simp only [restoreCheck_eq, hversion, slice_zero]

/-- The restored instance with the trimming written as a remainder (R198). -/
theorem restoredInstance_eq (ck : List Byte) :
    restoredInstance ck =
      { h := ⟨unbe32 ck 4, unbe32 ck 8, unbe32 ck 12, unbe32 ck 16⟩
        buf := slice ck 20 ((unbe64 ck 84).toNat % 64)
        len := unbe64 ck 84 } := by
  simp only [restoredInstance, pendingLen_eq]

/-- Settles O42: the outcome of the checks chooses the next state. -/
theorem resultOfRestore : Obligations.ResultOfRestore := by
  refine fun ck s => ⟨decode_restore, ?_⟩
  simp only [exec, execRestore, restoreCheck_eq_slices, restoredInstance_eq]
  split_ifs <;> rfl

/-- Settles O44: the failing RESTORE leaves the instance, and what a command does to the instance
and answers is a function of the instance alone. -/
theorem failingRestoreLeavesNoTrace : Obligations.FailingRestoreLeavesNoTrace := by
  intro ck s hck
  obtain ⟨c, hexec⟩ := exec_restore_unacceptable hck
  refine ⟨c, hexec s, fun i hc => ?_⟩
  obtain ⟨m, r, hseen⟩ := exec_command_of_inst i s.inst hc
  obtain ⟨u, hu, huInst, huResp⟩ := hseen (raiseInvalidState c s) rfl
  obtain ⟨v, hv, hvInst, hvResp⟩ := hseen s rfl
  refine ⟨u, v, r, hu, hv, huInst.trans hvInst.symm, hvResp, huResp.trans ?_⟩
  simp only [raiseInvalidState_eq, List.append_assoc, List.singleton_append]

/-! ### The bytes that RESTORE reads (R198) -/

theorem byteAt_congr {s s' : List Byte} {j : Nat} (h : s'[j]? = s[j]?) :
    byteAt s' j = byteAt s j := by
  simp only [byteAt, List.getD_eq_getElem?_getD, h]

theorem unbe32_congr {s s' : List Byte} {j j' : Nat}
    (h : ∀ k < 4, byteAt s' (j' + k) = byteAt s (j + k)) : unbe32 s' j' = unbe32 s j := by
  have h0 : byteAt s' j' = byteAt s j := h 0 (by omega)
  simp only [unbe32, h0, h 1, h 2, h 3, Nat.reduceLT]

theorem unbe64_congr {s s' : List Byte} {j j' : Nat}
    (h : ∀ k < 8, byteAt s' (j' + k) = byteAt s (j + k)) : unbe64 s' j' = unbe64 s j := by
  have h0 : byteAt s' j' = byteAt s j := h 0 (by omega)
  simp only [unbe64, h0, h 1, h 2, h 3, h 4, h 5, h 6, h 7, Nat.reduceLT]

/-- A slice is its bytes at their offsets. -/
theorem slice_congr {s s' : List Byte} {lo n : Nat} (h : ∀ j < n, s'[lo + j]? = s[lo + j]?) :
    slice s' lo n = slice s lo n := by
  apply List.ext_getElem?
  intro j
  by_cases hj : j < n
  · rw [slice_getElem? _ _ _ _ hj, slice_getElem? _ _ _ _ hj, h j hj]
  · simp only [slice, List.getElem?_take, hj, if_false]

/-- The bytes of the buffer field from `LEN mod 64` on are read for no part of the instance. -/
theorem restoredInstance_congr {ck ck' : List Byte}
    (h : ∀ j, (j < 20 + (unbe64 ck 84).toNat % 64 ∨ 84 ≤ j) → ck'[j]? = ck[j]?) :
    restoredInstance ck' = restoredInstance ck := by
  have hword : ∀ j ≤ 16, unbe32 ck' j = unbe32 ck j := fun j hj =>
    unbe32_congr fun k hk => byteAt_congr (h _ (by omega))
  have hlen : unbe64 ck' 84 = unbe64 ck 84 :=
    unbe64_congr fun k _ => byteAt_congr (h _ (by omega))
  have hbuf : slice ck' 20 ((unbe64 ck 84).toNat % 64) = slice ck 20 ((unbe64 ck 84).toNat % 64) :=
    slice_congr fun j hj => h _ (by omega)
  simp only [restoredInstance_eq, hlen, hbuf, hword, Nat.reduceLeDiff]

/-- Settles O45: the restored instance reads the pending bytes where they stand, and nothing of the
pad bytes. -/
theorem padBytesAreIgnored : Obligations.PadBytesAreIgnored := by
  intro ck s hck
  have hnx := restoredInstance_nx hck.1
  refine ⟨⟨_, exec_restore_acceptable s hck, hnx, fun j hj => ?_⟩, fun ck' hck' hsame => ?_⟩
  · rw [respondOk_inst, setInstance_inst, hnx] at hj
    rw [respondOk_inst, setInstance_inst, restoredInstance_eq, Instance.byteAt,
      slice_getElem? _ _ _ _ hj]
  · rw [exec_restore_acceptable s hck', exec_restore_acceptable s hck,
      restoredInstance_congr hsame]

/-! ### The round trip of a checkpoint (R200) -/

theorem byteAt_slice (s : List Byte) (lo : Nat) {n j : Nat} (h : j < n) :
    byteAt (slice s lo n) j = byteAt s (lo + j) := by
  simp only [byteAt, List.getD_eq_getElem?_getD, slice_getElem? _ _ _ _ h]

/-- A word is decoded from the field it stands in. -/
theorem unbe32_of_slice {s : List Byte} {lo : Nat} {w : Word} (h : slice s lo 4 = be32 w) :
    unbe32 s lo = w := by
  calc unbe32 s lo = unbe32 (slice s lo 4) 0 :=
        unbe32_congr fun k hk => by rw [Nat.zero_add, byteAt_slice s lo hk]
    _ = unbe32 (be32 w ++ []) 0 := by rw [h, List.append_nil]
    _ = w := unbe32_be32 w []

theorem unbe64_of_slice {s : List Byte} {lo : Nat} {v : DWord} (h : slice s lo 8 = be64 v) :
    unbe64 s lo = v := by
  calc unbe64 s lo = unbe64 (slice s lo 8) 0 :=
        unbe64_congr fun k hk => by rw [Nat.zero_add, byteAt_slice s lo hk]
    _ = unbe64 (be64 v ++ []) 0 := by rw [h, List.append_nil]
    _ = v := unbe64_be64 v []

theorem checkpoint_acceptable {m : Instance} (h : m.nx < 64) : Acceptable (checkpoint m) :=
  ⟨checkpoint_length h, rfl⟩

/-- Every field is decoded from its place, and the buffer is trimmed to the bytes that were pending
because the counter tells how many they were ((I-b) of R36). -/
theorem restoredInstance_checkpoint {m : Instance} (h : m.Inv) :
    restoredInstance (checkpoint m) = m := by
  obtain ⟨hnx, hcount⟩ := h
  obtain ⟨-, -, ha, hb, hc, hd, hbuf, hlen, -⟩ := checkpointLayout m hnx
  have htrim : slice (checkpoint m) 20 m.nx = m.buf := by
    calc slice (checkpoint m) 20 m.nx
        = (slice (checkpoint m) 20 64).take m.nx := by
          rw [slice, slice, List.take_take, Nat.min_eq_left hnx.le]
      _ = m.buf := by rw [hbuf, Instance.nx, List.take_left]
  rw [restoredInstance_eq, unbe64_of_slice hlen, ← hcount, htrim, unbe32_of_slice ha,
    unbe32_of_slice hb, unbe32_of_slice hc, unbe32_of_slice hd]

/-- Settles O46: the checkpoint is acceptable, and stands for the instance it was made of. -/
theorem checkpointRoundTrip : Obligations.CheckpointRoundTrip := fun s e _ hs =>
  ⟨_, _, checkpoint s.inst, rfl, rfl, rfl, rfl, checkpoint_length hs.1, _,
    exec_restore_acceptable e (checkpoint_acceptable hs.1), rfl, restoredInstance_checkpoint hs⟩

/-! ### The operand back from the restored instance (R200) -/

/-- Fields that stand one after the other are one slice (R193). -/
theorem slice_append_slice (s : List Byte) (lo m n : Nat) :
    slice s lo m ++ slice s (lo + m) n = slice s lo (m + n) := by
  simp only [slice, List.take_add, List.drop_drop]

theorem slice_succ {s : List Byte} {lo : Nat} (n : Nat) (h : lo < s.length) :
    slice s lo (n + 1) = byteAt s lo :: slice s (lo + 1) n := by
  rw [Nat.add_comm n 1, ← slice_append_slice, slice_one h, List.singleton_append]

theorem be32_unbe32_eq_slice {s : List Byte} {j : Nat} (h : j + 4 ≤ s.length) :
    be32 (unbe32 s j) = slice s j 4 := by
  rw [be32_unbe32]
  iterate 4 rw [slice_succ _ (by omega)]
  simp [slice]

theorem be64_unbe64_eq_slice {s : List Byte} {j : Nat} (h : j + 8 ≤ s.length) :
    be64 (unbe64 s j) = slice s j 8 := by
  rw [be64_unbe64]
  iterate 8 rw [slice_succ _ (by omega)]
  simp [slice]

theorem slice_eq_replicate {s : List Byte} {lo n : Nat} {b : Byte}
    (h : ∀ j < n, s[lo + j]? = some b) : slice s lo n = List.replicate n b := by
  apply List.ext_getElem?
  intro j
  by_cases hj : j < n
  · rw [slice_getElem? _ _ _ _ hj, h j hj, List.getElem?_replicate_of_lt hj]
  · simp [slice, hj]

/-- The pending bytes and the pad bytes make up the buffer field again. -/
theorem bufferField_slice {ck : List Byte} {n : Nat} (hck : ck.length = 92) (hn : n < 64)
    (hpad : ∀ j, 20 + n ≤ j → j < 84 → ck[j]? = some 0x00) :
    bufferField (slice ck 20 n) = slice ck 20 64 := by
  have hfill : slice ck (20 + n) (64 - n) = List.replicate (64 - n) 0x00 :=
    slice_eq_replicate fun j hj => hpad _ (by omega) (by omega)
  calc bufferField (slice ck 20 n)
      = slice ck 20 n ++ List.replicate (64 - n) 0x00 := by
        rw [bufferField, slice_length (by omega)]; rfl
    _ = slice ck 20 64 := by
        rw [← hfill, slice_append_slice, Nat.add_sub_cancel' hn.le]

/-- Each field of the checkpoint is the bytes of the operand at its place. -/
theorem checkpoint_restoredInstance {ck : List Byte} (h : Acceptable ck)
    (hpad : ∀ j, 20 + (unbe64 ck 84).toNat % 64 ≤ j → j < 84 → ck[j]? = some 0x00) :
    checkpoint (restoredInstance ck) = ck := by
  obtain ⟨hlen, hhead⟩ := h
  have hbuf := bufferField_slice hlen (Nat.mod_lt _ (by decide)) hpad
  have hfixed : Config.ckptTag ++ [Config.ckptVersion] = slice ck 0 4 := hhead.symm
  rw [restoredInstance_eq, checkpoint, hbuf, hfixed, be64_unbe64_eq_slice (by omega)]
  iterate 4 rw [be32_unbe32_eq_slice (by omega)]
  iterate 6 rw [slice_append_slice ck 0]
  rw [slice_zero, List.take_of_length_le hlen.le]

/-- Settles O47: the restored instance has the operand as its checkpoint. -/
theorem serializeAfterRestoreReturnsTheOperand :
    Obligations.SerializeAfterRestoreReturnsTheOperand := by
  intro ck e hck hpad
  have hback : checkpoint (respondOk .none (setInstance (restoredInstance ck) e)).inst = ck :=
    checkpoint_restoredInstance hck hpad
  refine ⟨_, _, exec_restore_acceptable e hck, rfl, ?_⟩
  simp only [Answered, respondOk_responses, hback]

/-! ### Hashing resumed from a checkpoint (R160, R173, R202) -/

/-- The counter's wrap is not seen in the padding: the bit length is taken modulo 2^64 (R173). -/
theorem digestOf_mod (h : Words4) (t : List Byte) (n : Nat) :
    digestOf h t (n % 2 ^ 64) = digestOf h t n := by
  have hbits : n % 2 ^ 64 * 8 % 2 ^ 64 = n * 8 % 2 ^ 64 := by omega
  simp only [digestOf, padSuffix, hbits]

/-- Finalizing after a WRITE gives the digest of the pending bytes and the operand, folded from the
chaining state and padded with the true count. -/
theorem finalize_writeInstance (p : List Byte) (m : Instance) :
    finalize (writeInstance p m).h (writeInstance p m).buf (writeInstance p m).len =
      digestOf m.h (m.buf ++ p) (m.len.toNat + p.length) := by
  rw [finalize_eq_digestOf, writeInstance_eq]
  simp only [addLen_toNat, digestOf_mod, digestOf_foldBlocks]

/-- Everything of RESTORE of an acceptable operand that a host can see (R196). -/
theorem exec_restore_next {ck : List Byte} (s : State) (h : Acceptable ck) :
    ∃ t, exec (.restore ck) s = .next t ∧ t.inst = restoredInstance ck ∧
      t.responses = s.responses ++ [⟨.ok, none, .none⟩] ∧ t.busy = s.busy ∧ t.pending = s.pending :=
  ⟨_, exec_restore_acceptable s h, rfl, rfl, rfl, rfl⟩

/-- Settles O48: RESTORE gives the restored instance, WRITE writes to it, and SUM finalizes it. -/
theorem resumedDigestUsesTheTrueCount : Obligations.ResumedDigestUsesTheTrueCount := by
  intro ck p s hck hp64 hb hp
  have hck64 : ck.length < 2 ^ 64 := by rw [hck.1]; decide
  obtain ⟨t, ht, htInst, htResp, htBusy, htPending⟩ :=
    exec_restore_next { s with pending := [⟨0x01, p⟩, ⟨0x02, []⟩] } hck
  obtain ⟨u, hu, huInst, huResp, -, huBusy, huPending, -⟩ :=
    exec_write_next p { t with pending := [⟨0x02, []⟩] }
  obtain ⟨v, hv, -, hvResp, -⟩ := exec_sum_next [] { u with pending := [] }
  have htb : t.busy = none := htBusy.trans hb
  have hrestore : step s = .next t := step_of_command hb hp (decode_restore hck64) ht
  have hwrite : step t = .next u := step_of_command htb htPending (decode_write hp64) hu
  have hsum : step u = .next v :=
    step_of_command (huBusy.trans htb) huPending (decode_sum (by decide)) hv
  have hdigest : finalize u.inst.h u.inst.buf u.inst.len =
      digestOf (restoredInstance ck).h ((restoredInstance ck).buf ++ p)
        ((restoredInstance ck).len.toNat + p.length) := by
    rw [huInst, finalize_writeInstance, htInst]
  refine ⟨v, (runN_step 2 hrestore).trans ((runN_step 1 hwrite).trans (runN_step 0 hsum)), ?_⟩
  simp [hvResp, huResp, htResp, hdigest, restoredInstance_eq, okResponse]

end Sys2Proof.Proofs

namespace Sys2Proof.Proofs

open Sys2Proof Sys2Proof.Machine

/-! ### What each instruction answers (R84, R222, R225) -/

/-- A step is silent: only a command answers (R84, R110). -/
theorem exec_of_not_isCommand {i : Instr} (hc : isCommand i = false) (s : State) :
    ∃ t, exec i s = .next t ∧ t.responses = s.responses := by
  obtain ⟨k, rfl⟩ := exists_decodeStep_of_not_isCommand hc
  exact ⟨_, exec_of_index k s, rfl⟩

/-- A command succeeds unless it is a RESTORE whose operand fails the checks (R222). -/
theorem exec_command_answers_ok {i : Instr} (hc : isCommand i = true)
    (hok : ∀ ck, i = .restore ck → Acceptable ck) (s : State) :
    ∃ t p, exec i s = .next t ∧ Answered s t (okResponse p) := by
  cases i
  case write p =>
    obtain ⟨t, ht, -, hresp, -⟩ := exec_write_next p s
    exact ⟨t, .none, ht, hresp⟩
  case restore ck => exact ⟨_, .none, exec_restore_acceptable s (hok ck rfl), rfl⟩
  case new | reset | sum | blockSize | digestSize | serialize | appendSerialize =>
    exact ⟨_, _, rfl, rfl⟩
  all_goals exact nomatch hc

/-- The answer of a command is the error for RESTORE of an unacceptable operand and OK otherwise, and
the error carries nothing. -/
theorem exec_command_answer {i : Instr} (hc : isCommand i = true) (s : State) :
    ∃ t r, exec i s = .next t ∧ Answered s t r ∧
      (r.status = .invalidState ↔ ∃ ck, i = .restore ck ∧ ¬ Acceptable ck) ∧
      (r.status ≠ .ok → r.payload = .none) := by
  by_cases hbad : ∃ ck, i = .restore ck ∧ ¬ Acceptable ck
  · obtain ⟨ck, rfl, hck⟩ := hbad
    obtain ⟨c, hexec⟩ := exec_restore_unacceptable hck
    exact ⟨_, _, hexec s, rfl, iff_of_true rfl ⟨ck, rfl, hck⟩, fun _ => rfl⟩
  · have hok : ∀ ck, i = .restore ck → Acceptable ck := fun ck hi =>
      by_contra fun hck => hbad ⟨ck, hi, hck⟩
    obtain ⟨t, p, ht, hresp⟩ := exec_command_answers_ok hc hok s
    exact ⟨t, _, ht, hresp, iff_of_false nofun hbad, fun hne => absurd rfl hne⟩

/-- A command is ended by one response, so there is no second one to tell apart (R84). -/
theorem answered_unique {s t : State} {r r' : Response} (h : Answered s t r)
    (h' : Answered s t r') : r = r' :=
  List.singleton_inj.1 (List.append_cancel_left (h.symm.trans h'))

theorem not_answered_of_responses_eq {s t : State} (h : t.responses = s.responses) (r : Response) :
    ¬ Answered s t r := by
  simp [Answered, h]

/-- Settles O43: a step answers nothing, and a command answers once, with the status and the payload
of `exec_command_answer`. -/
theorem onlyAnUnacceptableRestoreFails : Obligations.OnlyAnUnacceptableRestoreFails := by
  intro i s t h
  cases hc : isCommand i with
  | false =>
    obtain ⟨u, hu, hresp⟩ := exec_of_not_isCommand hc s
    cases h.symm.trans hu
    have hsilent := not_answered_of_responses_eq hresp
    have hrestore : ¬ ∃ ck, i = .restore ck ∧ ¬ Acceptable ck := by
      rintro ⟨ck, rfl, -⟩
      exact nomatch hc
    exact ⟨iff_of_false (fun ⟨_, _, ha⟩ => hsilent _ ha) hrestore,
      fun _ _ ha => absurd ha (hsilent _)⟩
  | true =>
    obtain ⟨u, r, hu, hr, hstatus, hpayload⟩ := exec_command_answer hc s
    cases h.symm.trans hu
    refine ⟨⟨fun ⟨c, p, ha⟩ => ?_, fun hbad => ?_⟩, fun c p ha => ?_⟩
    · exact hstatus.1 (by rw [answered_unique hr ha])
    · exact ⟨r.cause, r.payload, by rw [← hstatus.2 hbad]; exact hr⟩
    · cases answered_unique hr ha
      exact hpayload nofun

/-- Settles O54: by the answer of a command, and the silence of a step. -/
theorem everyCommandReturnsStateAndResponse : Obligations.EveryCommandReturnsStateAndResponse := by
  refine ⟨fun i s hc => ?_, fun i s hc => exec_of_not_isCommand hc s⟩
  obtain ⟨t, r, ht, hr, -, hpayload⟩ := exec_command_answer hc s
  exact ⟨t, r, ht, hr, hpayload⟩

/-! ### When the machine stops, and when it waits (R225, R237, log 3, log 7) -/

/-- A submission with an operand short enough, and none where its command takes none, decodes to a
command unless its word is reserved (R82, R83, R91). -/
theorem decodeCmd_ok_or_reserved {c : Submission} (hlen : c.operand.length < 2 ^ 64)
    (hplain : c.operand ≠ [] → c.word ∉ plainWords) :
    (∃ i, decodeCmd c = .ok i) ∨ decodeCmd c = .error .reservedWord := by
  obtain hw | hw | hw := word_cases c.word
  · obtain ⟨i, -, -, hdec⟩ := decodeCmd_of_mem_plainWords hw
    have hnil : c.operand = [] := by_contra fun hne => hplain hne hw
    exact .inl ⟨i, (hdec c.operand).trans (plainCommand_eq_ok.2 ⟨hnil, rfl⟩)⟩
  · obtain ⟨mk, hmk⟩ := decodeCmd_of_mem_operandWords hw
    obtain ⟨-, -, hdec⟩ := hmk c.operand
    exact .inl ⟨_, hdec.trans (operandCommand_eq_ok.2 ⟨(operandFits_iff _).2 hlen, rfl⟩)⟩
  · exact .inr (decodeCmd_reserved hw)

/-- Settles O55: by what the machine finds to run; a submission that is not malformed is a command,
which returns, or has a reserved word, which is answered. -/
theorem stepStopsOnMalformedSubmissionsOnly : Obligations.StepStopsOnMalformedSubmissionsOnly := by
  intro s hwell
  cases hb : s.busy with
  | some c => exact ⟨_, step_of_busy hb⟩
  | none =>
    cases hp : s.pending with
    | nil => exact ⟨s, step_of_idle hb hp⟩
    | cons c rest =>
      obtain ⟨hlen, hplain⟩ := hwell hb c rest hp
      obtain ⟨i, hd⟩ | hd := decodeCmd_ok_or_reserved hlen hplain
      · obtain ⟨t, r, ht, -⟩ := exec_command i { s with pending := rest } (isCommand_of_decode hd)
        exact ⟨t, step_of_command hb hp hd ht⟩
      · exact ⟨_, step_of_reserved hb hp hd⟩

/-- Settles O50: there is nothing to fetch. -/
theorem idleStepHoldsTheState : Obligations.IdleStepHoldsTheState := fun _ => step_of_idle

end Sys2Proof.Proofs
